-- ==== Sys2Proof/Word.lean ====
section
/-! DEFINITION. The word types of the Cindek 712's bus and converter. -/

namespace Sys2Proof

/-- One byte on the bus (R189). -/
abbrev Byte := BitVec 8

/-- A two-byte field of a frame (R199). -/
abbrev Half := BitVec 16

/-- A 10-bit converter result, 0..1023 (R90). -/
abbrev Code := BitVec 10

end Sys2Proof
end

