-- ==== Sys2Proof/Config.lean ====
section
/-! DEFINITION. The free values of the model: what the manual leaves open and no proof may know.

The 712 has no implementation-fixed configuration: its settings are state (R205). -/

namespace Sys2Proof

/-- The free value behind every order the manual leaves open at one event: the notices of different blocks
(R195, entry 4 of the assumption log), the level lines that arrive again together (R117, entry 5), and an ENTER that
reaches an IDLE engine together with a claim (R7, entry 37).
The first argument is the counter `free` of State, the second the how-manieth choice of that event. -/
opaque Config.freePick : Nat → Nat → Nat

end Sys2Proof
end

