-- ==== Sys2Proof/Syntax.lean ====
section
/-! DEFINITION. The commands of the Cindek 712: one constructor of Instr per row of spec/opcode_table.json,
with the operands that row's event carries. -/

namespace Sys2Proof

/-- The level of a digital line. -/
inductive Level where
  | low
  | high
  deriving DecidableEq, Repr

/-- A position 0..19 in the node table (R29). -/
abbrev Slot := Fin 20

/-- A wake line WK0..WK7 (R108). -/
abbrev WakeLine := Fin 8

/-- A wake source id: 0..7 the wake lines, 8 BUTTON, 9 LINK (R108). -/
abbrev SourceId := Fin 10

/-- The two inputs the fault handler filters (R160). -/
inductive SupplyInput where
  | acok
  | hotshut
  deriving DecidableEq, Repr

/-- The levels of the input pins that hold a level between events: the wake lines (R111), PWRBTN_N (R180),
ACOK and HOTSHUT_N (R160) and the ADDR strap (R189). -/
structure Pins where
  wk : Vector Level 8
  pwrbtn : Level
  acok : Level
  hotshut : Level
  addr : Level
  deriving DecidableEq, Repr

/-- What the rail monitor finds on its inputs in one sample pass (R90): the code of each analog channel and
the level of each digital input. -/
structure Readings where
  ain : Vector Code 12
  inputs : Vector Level 12
  deriving DecidableEq, Repr

/-- The nine payload bytes of SOURCE_PUT (R127, R199). -/
structure SourcePayload where
  id : Byte
  mode : Byte
  debounce : Byte
  edgeCount : Byte
  window : Half
  armed : Byte
  priority : Byte
  policy : Byte
  deriving DecidableEq, Repr

/-- The eight payload bytes of SETTINGS_PUT (R205, R199). -/
structure SettingsPayload where
  budget : Byte
  mode : Byte
  resumeDeadline : Half
  holdTime : Byte
  sleepInterval : Half
  acPolicy : Byte
  deriving DecidableEq, Repr

/-- How much of a read transaction the command is (R193, R194): its address acknowledge, its end after the
host has clocked out `clocked` bytes, or all of it with no event in between. -/
inductive ReadOp where
  | first
  | last (clocked : Nat)
  | whole (clocked : Nat)
  deriving DecidableEq, Repr

/-- The commands of the 712, in the order of spec/opcode_table.json. -/
inductive Instr where
  /-- STATUS (R198). -/
  | status
  /-- ENTER with its target byte and dwell (R5). -/
  | enter (target : Byte) (dwell : Half)
  /-- WAKE (R125). -/
  | wake
  /-- CHECKIN (R175). -/
  | checkin
  /-- HOLD with its field (R26). -/
  | hold (field : Byte)
  /-- PROCEED (R27). -/
  | proceed
  /-- LAST (R25). -/
  | last
  /-- NODE_GET of a slot (R49). -/
  | nodeGet (slot : Byte)
  /-- NODE_PUT with its payload, 0..32 bytes (R40). -/
  | nodePut (payload : List Byte)
  /-- CLEAR_FAULT of a slot (R50). -/
  | clearFault (slot : Byte)
  /-- READ_RAIL of a slot (R107). -/
  | readRail (slot : Byte)
  /-- SOURCE_GET of a source id (R126). -/
  | sourceGet (id : Byte)
  /-- SOURCE_PUT (R127). -/
  | sourcePut (payload : SourcePayload)
  /-- SETTINGS_GET (R205). -/
  | settingsGet
  /-- SETTINGS_PUT (R205). -/
  | settingsPut (payload : SettingsPayload)
  /-- SAVE (R204). -/
  | save
  /-- A taken write whose frame fails a check of R191, or a good request followed by bytes beyond LEN (R190); its data
  bytes. -/
  | invalidRequest (bytes : List Byte)
  /-- A write refused at its TYPE or LEN byte (R190); its data bytes. -/
  | ignoredWrite (bytes : List Byte)
  /-- A write to an address that ends before any data byte (R190). -/
  | busProbe (address : BitVec 7)
  /-- A read transaction, whole or its begin or end (R193, R194). -/
  | readTransaction (op : ReadOp)
  /-- Standby power arrives or RESET_N is asserted; reset is held for `held` ms (R202). -/
  | partReset (held : Nat)
  /-- The load event, with the levels the pins stand at (R202). -/
  | loadEvent (pins : Pins)
  /-- The end of a SAVE; whether the written image reads back correctly (R204). -/
  | saveEnd (readsBack : Bool)
  /-- A continuous round (R93). -/
  | continuousRound (readings : Readings)
  /-- The begin of a sleep round (R94). -/
  | sleepRoundBegin
  /-- The sample pass of a sleep round (R94). -/
  | sleepRoundPass (readings : Readings)
  /-- A node's ramp deadline passes (R59, R66). -/
  | rampDeadlineExpiry (slot : Slot)
  /-- A node's settle time passes (R60). -/
  | settleTimeExpiry (slot : Slot)
  /-- A node's discharge deadline passes (R62). -/
  | dischargeDeadlineExpiry (slot : Slot)
  /-- A wake line changes to a level (R112, R113). -/
  | wakeLineChange (line : WakeLine) (level : Level)
  /-- A wake line's debounce timer expires (R112, R113). -/
  | wakeDebounceExpiry (line : WakeLine)
  /-- A wake line's count window expires (R113). -/
  | countWindowExpiry (line : WakeLine)
  /-- PWRBTN_N changes to a level (R180). -/
  | pwrbtnChange (level : Level)
  /-- The button's debounce timer expires (R180). -/
  | buttonDebounceExpiry
  /-- The press reaches its hold time (R183). -/
  | holdTimerExpiry
  /-- The indicator's running segment ends (R187). -/
  | segmentExpiry
  /-- ACOK or HOTSHUT_N changes to a level (R160). -/
  | inputPinChange (input : SupplyInput) (level : Level)
  /-- The filter of ACOK or HOTSHUT_N expires (R160). -/
  | inputFilterExpiry (input : SupplyInput)
  /-- The dwell runs out (R167). -/
  | dwellExpiry
  /-- The watchdog's warning point (R174). -/
  | watchdogWarn
  /-- The watchdog expires (R176). -/
  | watchdogExpiry
  deriving DecidableEq, Repr

end Sys2Proof
end

