-- ==== Sys2Proof/Machine/State.lean ====
section
/-! DEFINITION. What the Cindek 712 holds: every piece of state the spec names, as plain data, and its values
right after part reset. Names follow the manual. -/

namespace Sys2Proof.Machine

/-! ### The manual's enumerations (Table 11-8) -/

/-- The four platform states (R1). -/
inductive Platform where
  | working
  | doze
  | hibernate
  | off
  deriving DecidableEq, Repr

/-- The engine phases (R3). -/
inductive Phase where
  | idle
  | lowering
  | raising
  | reversing
  | draining
  deriving DecidableEq, Repr

/-- The transition kinds (R4). -/
inductive Kind where
  | up
  | dozeOut
  | dozeIn
  | down
  | drop
  | relevel
  deriving DecidableEq, Repr

/-- What started a transition (Section 1.4). -/
inductive Origin where
  | request
  | wake
  | chain
  | recovery
  | acRestore
  | start
  deriving DecidableEq, Repr

/-- How a transition ended (R23). -/
inductive Ended where
  | completed
  | reversed
  | unwound
  | emergency
  deriving DecidableEq, Repr

/-- The causes of an emergency off (R153). -/
inductive Cause where
  | longPress
  | thermal
  | acfail
  | critical
  deriving DecidableEq, Repr

/-- The lockout (R157). -/
inductive Lockout where
  | none
  | resume
  | thermal
  deriving DecidableEq, Repr

/-- The fault kinds of a node (R75). -/
inductive FaultKind where
  | ramp
  | overvolt
  | dropout
  | discharge
  | handshake
  | blocked
  deriving DecidableEq, Repr

/-- The severity of a node (R36). -/
inductive Severity where
  | critical
  | tolerated
  deriving DecidableEq, Repr

/-- The consequence a FAULT notice reports (R148). -/
inductive Consequence where
  | none
  | unwind
  | emergency
  deriving DecidableEq, Repr

/-- The class of an analog sample (R98 to R100); NONE while no sample is held. -/
inductive SampleClass where
  | none
  | inBand
  | underBand
  | overBand
  | ok
  | badLow
  | badHigh
  | discharged
  | notDischarged
  deriving DecidableEq, Repr

/-- An action of the engine (R26); also the directions of the rollback stack (R129). -/
inductive ActKind where
  | on
  | off
  | undoOn
  | undoOff
  deriving DecidableEq, Repr

/-- The mode of a wake line (R109). -/
inductive WakeMode where
  | levelHigh
  | levelLow
  | rising
  | falling
  deriving DecidableEq, Repr

/-- The entry policy of a wake source (R109). -/
inductive Policy where
  | reverse
  | defer
  deriving DecidableEq, Repr

/-- The state of a line qualifier (R111). -/
inductive QualState where
  | idle
  | debouncing
  | active
  | counting
  deriving DecidableEq, Repr

/-- The arbiter mode (R77). -/
inductive ArbiterMode where
  | fixed
  | rotating
  deriving DecidableEq, Repr

/-- The AC policy (R205). -/
inductive AcPolicy where
  | stayOff
  | powerOn
  deriving DecidableEq, Repr

/-- The operation a STORE notice reports (R206). -/
inductive StoreOp where
  | load
  | save
  deriving DecidableEq, Repr

/-- The result a STORE notice reports (R206). -/
inductive StoreResult where
  | ok
  | noMarker
  | badCrc
  | verify
  deriving DecidableEq, Repr

/-- The status byte of a reply (Table 11-2). -/
inductive Status where
  | ok
  | accepted
  | clamped
  | busy
  | state
  | range
  | ref
  | cycle
  | clash
  | live
  | inUse
  | frame
  | type
  deriving DecidableEq, Repr

/-! ### The working configuration: node records, source records, settings -/

/-- One flag per platform state: the required levels of a node (R34). -/
structure Levels where
  working : Bool
  doze : Bool
  hibernate : Bool
  off : Bool
  deriving DecidableEq, Repr

/-- The window part of a record (R38). -/
structure Window where
  nominal : Nat
  scale : Nat
  underTol : Nat
  overTol : Nat
  hysteresis : Nat
  threshold : Nat
  deriving DecidableEq, Repr

/-- The good source of a RAIL node with the fields it holds (R32). -/
inductive GoodSource where
  | analog (channel : Fin 12) (window : Window) (nGood nBad : Nat)
  | digital (input : Fin 12) (polarity : Level) (nGood nBad : Nat)
  | timed
  deriving DecidableEq, Repr

/-- The kind of a node with the fields only that kind holds (R30). -/
inductive NodeBody where
  | rail (source : GoodSource) (priority weight retries : Nat)
  | signal
  | handshake (ack : Fin 12) (polarity : Level) (nGood : Nat)
  deriving DecidableEq, Repr

/-- A node record of kind RAIL, SIGNAL or HANDSHAKE (R29, field table). A slot of kind NONE holds no record. -/
structure NodeRecord where
  output : Fin 16
  polarity : Level
  levels : Levels
  prereqs : List Slot
  severity : Severity
  irreversible : Bool
  ramp : Nat
  settle : Nat
  discharge : Nat
  body : NodeBody
  deriving DecidableEq, Repr

/-- The states in which a source is armed (R109). -/
structure Armed where
  doze : Bool
  hibernate : Bool
  off : Bool
  deriving DecidableEq, Repr

/-- The record of a wake line (R109). -/
structure LineRecord where
  mode : WakeMode
  debounce : Nat
  edgeCount : Nat
  window : Nat
  armed : Armed
  priority : Nat
  policy : Policy
  deriving DecidableEq, Repr

/-- The record of BUTTON (R109): its armed set is fixed and not held. -/
structure ButtonRecord where
  priority : Nat
  policy : Policy
  deriving DecidableEq, Repr

/-- The record of LINK (R109). -/
structure LinkRecord where
  armed : Armed
  priority : Nat
  policy : Policy
  deriving DecidableEq, Repr

/-- The settings record (R205). -/
structure Settings where
  budget : Nat
  mode : ArbiterMode
  resumeDeadline : Nat
  holdTime : Nat
  sleepInterval : Nat
  acPolicy : AcPolicy
  deriving DecidableEq, Repr

/-- The working configuration: what SAVE writes and the load takes from the image (R201). -/
structure WorkingConfig where
  nodes : Vector (Option NodeRecord) 20
  lines : Vector LineRecord 8
  button : ButtonRecord
  link : LinkRecord
  settings : Settings
  deriving DecidableEq, Repr

/-! ### The live state of a node -/

/-- The node state (R52). PENDING carries whether its output is driven at the on level, which is true of an off
member and of a node waiting for an undo-off; FAULTED carries the fault kind, present only then (R39). -/
inductive NodeState where
  | off
  | pending (outputOn : Bool)
  | queued
  | ramping
  | settling
  | good
  | stopping
  | discharging
  | faulted (kind : FaultKind)
  deriving DecidableEq, Repr

/-- Which timer a node's deadline is (R54). -/
inductive DeadlineKind where
  | ramp
  | settle
  | discharge
  deriving DecidableEq, Repr

/-- The one timer running for a node, with its expiry time (R54). -/
structure Deadline where
  kind : DeadlineKind
  expiry : Nat
  deriving DecidableEq, Repr

/-- How an off, release or discharge ends when it ends without a fault (R54). -/
inductive Ending where
  | off
  | blocked
  deriving DecidableEq, Repr

/-- Everything the 712 holds for one slot beside its record: the live state (R39), the switch context (R54), the
monitor's items (R89), the arbiter's charge (R78) and the engine's plan for the transition in progress
(R10 to R12, R132). -/
structure Node where
  state : NodeState
  retriesLeft : Nat
  inCount : Nat
  overCount : Nat
  badCount : Nat
  offCount : Nat
  lastSample : Option Nat
  lastClass : SampleClass
  saturated : Bool
  unobserved : Bool
  deadline : Option Deadline
  ending : Ending
  failure : Bool
  forced : Bool
  charge : Nat
  target : Bool
  levelBlocked : Bool
  member : Option Bool
  startLevel : Bool
  deriving DecidableEq, Repr

/-- What the 712 does with an output line (R31). -/
inductive Drive where
  | released
  | driven (level : Level)
  deriving DecidableEq, Repr

/-! ### The transition engine -/

/-- A transition record (R23). -/
structure Record where
  kind : Kind
  source : Platform
  target : Platform
  reached : Option Platform
  origin : Option Origin
  outcome : Option Ended
  wake : Option SourceId
  fault : Option (Slot × FaultKind)
  cause : Option Cause
  absorbed : List SourceId
  duration : Nat
  deriving DecidableEq, Repr

/-- An action waiting on the issue list (R14), or an entry of the rollback stack (R129). -/
structure Action where
  slot : Slot
  act : ActKind
  deriving DecidableEq, Repr

/-- The follow-on claim (R8). -/
inductive FollowOn where
  | acRestoreUp
  | recoveryUp
  | recoveryDrop
  deriving DecidableEq, Repr

/-- The dwell timer (R165): dwell in minutes and expiry time while RUNNING. -/
inductive Dwell where
  | none
  | running (minutes expiry : Nat)
  | expired
  deriving DecidableEq, Repr

/-- The resume watchdog's state with what it holds while ARMED (R171); the deadline in ms. -/
inductive Watchdog where
  | disarmed
  | armed (deadline armedAt : Nat) (warned : Bool) (kind : Kind) (outcome : Ended)
  deriving DecidableEq, Repr

/-! ### Notices -/

/-- The notice kinds (Table 11-3). -/
inductive NoticeKind where
  | done
  | fault
  | button
  | warn
  | held
  | store
  | acfail
  deriving DecidableEq, Repr

/-- What a notice carries (R24, R148, R182, R174, R26, R206, R161). -/
inductive Notice where
  | done (record : Record)
  | fault (slot : Slot) (kind : FaultKind) (sample : Option Nat) (phase : Phase) (transition : Option Kind)
      (consequence : Consequence)
  | button (length : Nat) (phase : Phase) (transition : Option Kind)
  | warn (remaining counter : Nat) (kind : Kind) (outcome : Ended)
  | held (slot : Slot) (act : ActKind)
  | store (op : StoreOp) (result : StoreResult)
  | acfail (platform : Platform) (phase : Phase) (emergency : Bool)
  deriving DecidableEq, Repr

/-- An entry of the notice queue (R195): the newest notice of its kind, its merge count, and whether it was
merged after its copy was taken by the read in progress (R194). -/
structure NoticeEntry where
  notice : Notice
  count : Nat
  merged : Bool
  deriving DecidableEq, Repr

/-! ### The board: what the events of engine, switch, arbiter, fault handler and timers change -/

/-- The part of the state that the engine, the node switch, the arbiter, the wake list, the fault handler, the two
long timers and their notices change among themselves inside one event (R57). Three fields are the model's own and
tell only of the event in hand: `emptyChange`, the transition started at this event with an empty change set (R21,
entry 33); `listedNow`, the slots listed at this event (R14, entry 21); `blockTest`, in LOWERING a node has become
FAULTED at this event, so the test of R17 is due (entry 39). They are clear between events. -/
structure Board where
  nodes : Vector Node 20
  outs : Vector Drive 16
  platform : Platform
  phase : Phase
  record : Option Record
  startedAt : Nat
  last : Option Record
  stepHold : Bool
  held : Bool
  issue : List Action
  listedNow : List Slot
  emptyChange : Bool
  blockTest : Bool
  stack : List Action
  reversible : Bool
  requestedDwell : Option Nat
  followOn : Option FollowOn
  inUse : Nat
  pointer : Slot
  wakes : List SourceId
  lockout : Lockout
  cause : Option Cause
  thermalMark : Bool
  acRestore : Bool
  dwell : Dwell
  watchdog : Watchdog
  recovery : Bool
  counter : Nat
  notices : List NoticeEntry
  deriving DecidableEq, Repr

/-! ### Rail monitor, wake lines, panel, link, store -/

/-- The round mode (R91). -/
inductive RoundMode where
  | continuous
  | sleep
  deriving DecidableEq, Repr

/-- The converter (R89); STABILIZING until a time. -/
inductive Converter where
  | unpowered
  | stabilizing (ready : Nat)
  | ready
  deriving DecidableEq, Repr

/-- The rail monitor's own items (R89), and the time of the last sleep-round pass (for R95). -/
structure Monitor where
  mode : RoundMode
  converter : Converter
  nextRound : Option Nat
  passAt : Option Nat
  deriving DecidableEq, Repr

/-- The line qualifier of a wake line (R111): timers as expiry times. -/
structure Qualifier where
  state : QualState
  debounce : Option Nat
  tally : Nat
  window : Option Nat
  deriving DecidableEq, Repr

/-- The button qualifier's states (R180). -/
inductive ButtonState where
  | released
  | pressDebounce
  | pressed
  | releaseDebounce
  | waitRelease
  deriving DecidableEq, Repr

/-- The press record (R180, R181); the hold time in seconds. -/
structure Press where
  holdTime : Nat
  working : Bool
  phase : Phase
  transition : Option Kind
  qualifiedAt : Nat
  spent : Bool
  deriving DecidableEq, Repr

/-- The indicator's patterns (R185). -/
inductive Pattern where
  | steadyOn
  | slow
  | fast
  | steadyOff
  | code2
  | code3
  | code4
  deriving DecidableEq, Repr

/-- The running segment of a pattern (R185): its index from 0 and its expiry time. -/
structure Segment where
  index : Nat
  expiry : Nat
  deriving DecidableEq, Repr

/-- The front panel (R180, R185). -/
structure Panel where
  button : ButtonState
  debounce : Option Nat
  press : Option Press
  holdTimer : Option Nat
  pattern : Pattern
  segment : Option Segment
  next : Option Pattern
  deriving DecidableEq, Repr

/-- Where the frame of a read in progress came from (R193). -/
inductive FrameSource where
  | reply
  | notice (kind : NoticeKind)
  | empty
  deriving DecidableEq, Repr

/-- A read transaction in progress: the chosen frame's copy and its source (R193). -/
structure OpenRead where
  source : FrameSource
  frame : List Byte
  deriving DecidableEq, Repr

/-- The message link (R189 to R197). `acks` and `sent` are what it put on the bus in the last transaction. -/
structure Link where
  addrHigh : Bool
  reply : Option (List Byte)
  read : Option OpenRead
  attnLow : Bool
  acks : List Bool
  sent : List Byte
  deriving DecidableEq, Repr

/-- The stored image (R201, R204): no marker, a marker with an invalid CRC (a SAVE that was broken off or did not
verify), or the bytes a SAVE wrote. -/
inductive Image where
  | noMarker
  | torn
  | bytes (image : List Byte)
  deriving DecidableEq, Repr

/-- A SAVE in progress: its start and the content taken then (R204). -/
structure SaveJob where
  startedAt : Nat
  content : WorkingConfig
  deriving DecidableEq, Repr

/-- The configuration store (R203, R204). -/
structure Store where
  image : Image
  saving : Option SaveJob
  unconfigured : Bool
  deriving DecidableEq, Repr

/-- Start-up (R202): reset ends at a time and the load event is awaited, or start-up has run. -/
inductive Startup where
  | awaitLoad (resetEnd : Nat)
  | running
  deriving DecidableEq, Repr

/-- The fault handler's two filtered inputs (R147, R160): the levels it holds, and for each the expiry of a running
filter. A pending change is the pin's present level. -/
structure Inputs where
  acokHigh : Bool
  hotshutActive : Bool
  acokFilter : Option Nat
  hotshutFilter : Option Nat
  deriving DecidableEq, Repr

/-- The state of the 712. -/
structure State where
  pending : List Instr
  now : Nat
  free : Nat
  startup : Startup
  pins : Pins
  cfg : WorkingConfig
  board : Board
  inputs : Inputs
  monitor : Monitor
  quals : Vector Qualifier 8
  panel : Panel
  ledOn : Bool
  link : Link
  store : Store
  deriving DecidableEq, Repr

/-- Reasons to stop with a fault: none. The manual describes no event that stops the 712. -/
inductive Fault where
  deriving DecidableEq, Repr

/-- Reasons to refuse a command. -/
inductive Refusal where
  /-- Raised by exec for a row of the table that has no meaning yet (safe: nothing is claimed of it). No arm raises it. -/
  | notModelled (mnemonic : String)
  deriving DecidableEq, Repr

/-! ### Values after part reset -/

/-- A slot after part reset (R39, R54, R89); the plan is empty because no transition is in progress. -/
def Node.reset : Node where
  state := .off
  retriesLeft := 0
  inCount := 0
  overCount := 0
  badCount := 0
  offCount := 0
  lastSample := none
  lastClass := .none
  saturated := false
  unobserved := false
  deadline := none
  ending := .off
  failure := false
  forced := false
  charge := 0
  target := false
  levelBlocked := false
  member := none
  startLevel := false

/-- The armed set that names no state. -/
def Armed.empty : Armed := ⟨false, false, false⟩

/-- A wake line's record while UNCONFIGURED (R110). -/
def LineRecord.default : LineRecord := ⟨.falling, 0, 1, 1, .empty, 7, .defer⟩

/-- BUTTON's record while UNCONFIGURED (R110). -/
def ButtonRecord.default : ButtonRecord := ⟨0, .reverse⟩

/-- LINK's record while UNCONFIGURED (R110). -/
def LinkRecord.default : LinkRecord := ⟨.empty, 7, .defer⟩

/-- The default settings (R205). -/
def Settings.default : Settings := ⟨80, .fixed, 120, 4, 100, .stayOff⟩

/-- The working configuration of a part whose load failed (R29, R110, R205). -/
def WorkingConfig.default : WorkingConfig where
  nodes := Vector.replicate 20 none
  lines := Vector.replicate 8 .default
  button := .default
  link := .default
  settings := .default

/-- The board after part reset (R1, R3, R14, R23, R24, R26, R78, R80, R82, R121, R129, R147, R165, R171, R197). -/
def Board.reset : Board where
  nodes := Vector.replicate 20 .reset
  outs := Vector.replicate 16 .released
  platform := .off
  phase := .idle
  record := none
  startedAt := 0
  last := none
  stepHold := false
  held := false
  issue := []
  listedNow := []
  emptyChange := false
  blockTest := false
  stack := []
  reversible := false
  requestedDwell := none
  followOn := none
  inUse := 0
  pointer := 19
  wakes := []
  lockout := .none
  cause := none
  thermalMark := false
  acRestore := false
  dwell := .none
  watchdog := .disarmed
  recovery := false
  counter := 0
  notices := []

/-- The rail monitor after part reset (R89). -/
def Monitor.reset : Monitor := ⟨.sleep, .unpowered, none, none⟩

/-- A line qualifier with nothing in progress (R111). -/
def Qualifier.reset : Qualifier := ⟨.idle, none, 0, none⟩

/-- The front panel after part reset (R180, R185). -/
def Panel.reset : Panel := ⟨.released, none, none, none, .steadyOff, none, none⟩

/-- The message link after part reset (R192, R196, R197). -/
def Link.reset : Link := ⟨false, none, none, false, [], []⟩

/-- The fault handler's inputs until the load event takes the pin levels (R160; assumption 9). -/
def Inputs.reset : Inputs := ⟨true, false, none, none⟩

/-- Pin levels until LOAD_EVENT says them (assumption 9). -/
def pinsAtReset : Pins := ⟨Vector.replicate 8 .high, .high, .high, .high, .low⟩

/-- The 712 right after part reset, before its load event, with a stored image that holds no marker. -/
def State.reset : State where
  pending := []
  now := 0
  free := 0
  startup := .awaitLoad 0
  pins := pinsAtReset
  cfg := .default
  board := .reset
  inputs := .reset
  monitor := .reset
  quals := Vector.replicate 8 .reset
  panel := .reset
  ledOn := false
  link := .reset
  store := ⟨.noMarker, none, false⟩

end Sys2Proof.Machine
end

