-- ==== Sys2Proof/Machine/Flags.lean ====
section
/-! DEFINITION. The derived conditions of the manual: levels, the prerequisite relation, what counts as GOOD or at
rest, the arbiter queue, the out-of-level count. None of them is held; each is read from State. -/

namespace Sys2Proof.Machine

/-- The twenty slots in ascending order (R29). -/
def slots : List Slot := [0, 1, 2, 3, 4, 5, 6, 7, 8, 9, 10, 11, 12, 13, 14, 15, 16, 17, 18, 19]

/-- What the engine, the switch, the arbiter and the fault handler read and do not change inside one event: the
working configuration, the time, UNCONFIGURED and the two qualified inputs. -/
structure Env where
  cfg : WorkingConfig
  now : Nat
  unconfigured : Bool
  acokHigh : Bool
  hotshutActive : Bool
  deriving DecidableEq, Repr

/-- The reading side of a state. -/
def State.env (s : State) : Env := ⟨s.cfg, s.now, s.store.unconfigured, s.inputs.acokHigh, s.inputs.hotshutActive⟩

/-! ### The whole part -/

/-- The 712 answers on the bus: from the load event on (R189). -/
def State.isUp (s : State) : Bool :=
  match s.startup with
  | .running => true
  | .awaitLoad _ => false

/-- A SAVE is in progress. -/
def State.isSaving (s : State) : Bool := s.store.saving.isSome

/-! ### Records -/

/-- The record of a slot; none for kind NONE (R30). -/
def WorkingConfig.node (cfg : WorkingConfig) (i : Slot) : Option NodeRecord := cfg.nodes.get i

/-- The record of a wake line. -/
def WorkingConfig.line (cfg : WorkingConfig) (l : WakeLine) : LineRecord := cfg.lines.get l

/-- The kind is RAIL. -/
def NodeBody.isRail : NodeBody → Bool
  | .rail .. => true
  | .signal | .handshake .. => false

/-- The inrush weight; only a RAIL has one (R30). -/
def NodeBody.weight : NodeBody → Nat
  | .rail _ _ w _ => w
  | .signal | .handshake .. => 0

/-- The priority in the arbiter queue. -/
def NodeBody.priority : NodeBody → Nat
  | .rail _ p _ _ => p
  | .signal | .handshake .. => 0

/-- The retries value; 0 for a kind that holds none (R39). -/
def NodeBody.retries : NodeBody → Nat
  | .rail _ _ _ n => n
  | .signal | .handshake .. => 0

/-- The good source is ANALOG. -/
def NodeBody.isAnalog : NodeBody → Bool
  | .rail (.analog ..) _ _ _ => true
  | .rail (.digital ..) _ _ _ | .rail .timed _ _ _ | .signal | .handshake .. => false

/-- The opposite level. -/
def flipLevel : Level → Level
  | .low => .high
  | .high => .low

/-- The level of a node's output line for on or off (R31). -/
def NodeRecord.outLevel (r : NodeRecord) (on : Bool) : Level := if on then r.polarity else flipLevel r.polarity

/-- The required level in a platform state (R34). -/
def Levels.at (l : Levels) : Platform → Bool
  | .working => l.working
  | .doze => l.doze
  | .hibernate => l.hibernate
  | .off => l.off

/-- The required level of a slot; a NONE slot has none and reads off. -/
def WorkingConfig.required (cfg : WorkingConfig) (p : Platform) (i : Slot) : Bool :=
  match cfg.node i with
  | none => false
  | some r => r.levels.at p

/-- The prerequisites of a slot. -/
def WorkingConfig.prereqs (cfg : WorkingConfig) (i : Slot) : List Slot :=
  match cfg.node i with
  | none => []
  | some r => r.prereqs

/-- The dependents of a slot: the nodes that list it (R35). -/
def WorkingConfig.dependents (cfg : WorkingConfig) (i : Slot) : List Slot :=
  slots.filter (fun d => (cfg.prereqs d).contains i)

/-- The slots reached from some by following dependents, in at most `n` rounds. -/
def WorkingConfig.reach (cfg : WorkingConfig) : Nat → List Slot → List Slot
  | 0, l => l
  | n + 1, l => cfg.reach n (slots.filter (fun d => l.contains d || (cfg.prereqs d).any l.contains))

/-- The transitive dependents of a slot, through nodes of any state (R151). -/
def WorkingConfig.below (cfg : WorkingConfig) (i : Slot) : List Slot := cfg.reach 20 (cfg.dependents i)

/-- The severity is CRITICAL. -/
def WorkingConfig.critical (cfg : WorkingConfig) (i : Slot) : Bool :=
  match cfg.node i with
  | none => false
  | some r => r.severity == .critical

/-- One round of the level correction of R10: a node keeps target on while its prerequisites have it. -/
def WorkingConfig.correctTargets (cfg : WorkingConfig) (t : List Slot) : List Slot :=
  t.filter (fun i => (cfg.prereqs i).all t.contains)

/-- The nodes with target level on for a to-state: required on, corrected along the prerequisite graph (R10).
The graph has no cycle and 20 slots, so 20 rounds settle it. -/
def WorkingConfig.targetsOn (cfg : WorkingConfig) (p : Platform) : List Slot :=
  Nat.iterate cfg.correctTargets 20 (slots.filter (cfg.required p))

/-! ### Node states -/

/-- The actual level of a node (R34). -/
def NodeState.level : NodeState → Bool
  | .ramping | .settling | .good => true
  | .pending on => on
  | .off | .queued | .stopping | .discharging | .faulted _ => false

/-- GOOD as every test of the manual takes it: a PENDING off member counts (R53). -/
def NodeState.isGood : NodeState → Bool
  | .good | .pending true => true
  | .off | .pending false | .queued | .ramping | .settling | .stopping | .discharging | .faulted _ => false

/-- OFF or FAULTED. -/
def NodeState.isDown : NodeState → Bool
  | .off | .faulted _ => true
  | .pending _ | .queued | .ramping | .settling | .good | .stopping | .discharging => false

/-- FAULTED. -/
def NodeState.isFaulted : NodeState → Bool
  | .faulted _ => true
  | .off | .pending _ | .queued | .ramping | .settling | .good | .stopping | .discharging => false

/-- STOPPING or DISCHARGING. -/
def NodeState.isFalling : NodeState → Bool
  | .stopping | .discharging => true
  | .off | .pending _ | .queued | .ramping | .settling | .good | .faulted _ => false

/-- At rest as OFF, GOOD or FAULTED (R135). -/
def NodeState.atRest : NodeState → Bool
  | .off | .good | .faulted _ => true
  | .pending _ | .queued | .ramping | .settling | .stopping | .discharging => false

/-! ### The board -/

/-- The live half of a slot. -/
def Board.node (b : Board) (i : Slot) : Node := b.nodes.get i

/-- The node state of a slot. -/
def Board.stateOf (b : Board) (i : Slot) : NodeState := (b.node i).state

/-- Every prerequisite of a slot is GOOD (R16). -/
def Board.prereqsGood (b : Board) (cfg : WorkingConfig) (i : Slot) : Bool :=
  (cfg.prereqs i).all (fun p => (b.stateOf p).isGood)

/-- Every dependent of a slot is OFF or FAULTED (R13). -/
def Board.dependentsDown (b : Board) (cfg : WorkingConfig) (i : Slot) : Bool :=
  (cfg.dependents i).all (fun d => (b.stateOf d).isDown)

/-- Every slot satisfies a test of its node state. -/
def Board.allStates (b : Board) (p : NodeState → Bool) : Bool := slots.all (fun i => p (b.stateOf i))

/-- The out-of-level count (R51). -/
def outOfLevel (cfg : WorkingConfig) (b : Board) : Nat :=
  (slots.filter (fun i => (cfg.node i).isSome && !(b.stateOf i).isFaulted
    && ((b.stateOf i).level != cfg.required b.platform i))).length

/-- The class of a kind is downward (R4). -/
def Kind.isDownward : Kind → Bool
  | .dozeIn | .down | .drop => true
  | .up | .dozeOut | .relevel => false

/-- UP or DOZE_OUT. -/
def Kind.isResume : Kind → Bool
  | .up | .dozeOut => true
  | .dozeIn | .down | .drop | .relevel => false

/-- A transition is in progress (R3). -/
def Phase.inTransition : Phase → Bool
  | .lowering | .raising | .reversing => true
  | .idle | .draining => false

/-- The kind of the transition in progress; present while one is (R148, R181). -/
def Board.transitionKind (b : Board) : Option Kind :=
  if b.phase.inTransition then b.record.map Record.kind else none

/-- A stack or issue list names a slot. -/
def listed (l : List Action) (i : Slot) : Bool := l.any (fun a => a.slot == i)

/-- The priority of a slot; 0 where none is held. -/
def WorkingConfig.priority (cfg : WorkingConfig) (i : Slot) : Nat :=
  match cfg.node i with
  | none => 0
  | some r => r.body.priority

/-- Insert ahead of the first entry whose key is not below one's own. -/
def insertByKey (key : Slot → Nat) (i : Slot) : List Slot → List Slot
  | [] => [i]
  | j :: l => if key i ≤ key j then i :: j :: l else j :: insertByKey key i l

/-- Slots in ascending order, taken in the order of the arbiter mode: by priority, equal ones by slot (R81), or from
the slot after the pointer (R82). -/
def arbiterOrder (cfg : WorkingConfig) (b : Board) (l : List Slot) : List Slot :=
  match cfg.settings.mode with
  | .fixed => l.foldr (insertByKey cfg.priority) []
  | .rotating => l.filter (fun i => b.pointer < i) ++ l.filter (fun i => i ≤ b.pointer)

/-- The arbiter queue: the QUEUED nodes in the order of the mode (R80). -/
def Board.queue (b : Board) (cfg : WorkingConfig) : List Slot :=
  arbiterOrder cfg b (slots.filter (fun i => b.stateOf i == .queued))

/-- The RAIL nodes in RAMPING. -/
def Board.rampingRails (b : Board) (cfg : WorkingConfig) : List Slot :=
  slots.filter (fun i => b.stateOf i == .ramping && (match cfg.node i with
    | none => false
    | some r => r.body.isRail))

/-- The weight of a slot; 0 where none is held. -/
def WorkingConfig.weight (cfg : WorkingConfig) (i : Slot) : Nat :=
  match cfg.node i with
  | none => 0
  | some r => r.body.weight

/-- No lockout holds and the part is configured: the engine may start any transition (R2). -/
def Board.mayStart (b : Board) (e : Env) : Bool := !e.unconfigured && b.lockout == .none

/-- The platform is in a sleeping state (R2). -/
def Platform.isSleeping : Platform → Bool
  | .working => false
  | .doze | .hibernate | .off => true

/-- The rank of a platform state, downward (R2). -/
def Platform.rank : Platform → Nat
  | .working => 0
  | .doze => 1
  | .hibernate => 2
  | .off => 3

end Sys2Proof.Machine
end

