-- ==== Sys2Proof/Decode.lean ====
section
/-! DEFINITION. From bits and bytes to commands.

No row of spec/opcode_table.json gives bits, so `decodeTableWord` reads no word. The host's requests are frames
of bytes all the same (Table 11-1): `requestFrame` writes them and `requestOf` reads them back. -/

namespace Sys2Proof

/-- The table gives no row any bits, so no word spells a command. -/
def decodeTableWord (_nbits _w : Nat) : Option Instr := none

/-! ### Bytes: multi-byte fields are sent least significant byte first (R199). -/

/-- The two bytes of a two-byte field. -/
def bytesOfHalf (h : Half) : List Byte := [h.setWidth 8, (h >>> 8).setWidth 8]

/-- A two-byte field from its low and high byte. -/
def halfOfBytes (lo hi : Byte) : Half := hi ++ lo

/-- A number as one byte. -/
def byte1 (n : Nat) : Byte := BitVec.ofNat 8 n

/-- A number as two bytes. -/
def byte2 (n : Nat) : List Byte := [byte1 n, byte1 (n / 256)]

/-- A number as four bytes. -/
def byte4 (n : Nat) : List Byte := [byte1 n, byte1 (n / 256), byte1 (n / 65536), byte1 (n / 16777216)]

/-- The byte at an offset of a payload; 0 past its end. -/
def byteAt (p : List Byte) (k : Nat) : Byte := p.getD k 0

/-- The number in the two bytes at an offset. -/
def numAt2 (p : List Byte) (k : Nat) : Nat := (byteAt p k).toNat + 256 * (byteAt p (k + 1)).toNat

/-! ### Request frames (Table 11-1). -/

/-- How a request type's LEN is checked (R191, check 3): `any` is NODE_PUT, whose length the node table tests. -/
inductive LenRule where
  | exactly (n : Nat)
  | any
  deriving DecidableEq, Repr

/-- The largest LEN of a frame (R190). -/
abbrev maxLen : Nat := 32

/-- The LEN rule of a request type; none for a TYPE that Table 11-1 does not list. -/
def requestLen (type : Byte) : Option LenRule :=
  match type.toNat with
  | 0x01 => some (.exactly 0)
  | 0x02 => some (.exactly 3)
  | 0x03 => some (.exactly 0)
  | 0x04 => some (.exactly 0)
  | 0x05 => some (.exactly 1)
  | 0x06 => some (.exactly 0)
  | 0x07 => some (.exactly 0)
  | 0x10 => some (.exactly 1)
  | 0x11 => some .any
  | 0x12 => some (.exactly 1)
  | 0x13 => some (.exactly 1)
  | 0x18 => some (.exactly 1)
  | 0x19 => some (.exactly 9)
  | 0x1C => some (.exactly 0)
  | 0x1D => some (.exactly 8)
  | 0x1E => some (.exactly 0)
  | _ => none

/-- What the data bytes of a write transaction into an empty reply slot come to (R190, R191). -/
inductive FrameVerdict where
  /-- No data byte: not a request. -/
  | probe
  /-- LEN above 32: the transaction is ignored. -/
  | ignored
  /-- Taken and answered FRAME. -/
  | badFrame
  /-- Taken and answered TYPE. -/
  | badType
  /-- Handed to the owner of the type with this payload. -/
  | request (type : Byte) (payload : List Byte)
  deriving DecidableEq, Repr

/-- The checks of R190 and R191 in their order. Bytes beyond LEN are discarded. -/
def frameVerdict : List Byte → FrameVerdict
  | [] => .probe
  | [_] => .badFrame
  | type :: len :: rest =>
    if maxLen < len.toNat then .ignored
    else if rest.length < len.toNat then .badFrame
    else
      match requestLen type with
      | none => .badType
      | some .any => .request type (rest.take len.toNat)
      | some (.exactly n) => if len.toNat = n then .request type (rest.take n) else .badFrame

/-- A write frame: TYPE, LEN, payload. -/
def writeFrame (type : Nat) (payload : List Byte) : List Byte := byte1 type :: byte1 payload.length :: payload

/-- The nine payload bytes of SOURCE_PUT (R199). -/
def sourcePayloadBytes (p : SourcePayload) : List Byte :=
  [p.id, p.mode, p.debounce, p.edgeCount] ++ bytesOfHalf p.window ++ [p.armed, p.priority, p.policy]

/-- The eight payload bytes of SETTINGS_PUT (R199). -/
def settingsPayloadBytes (p : SettingsPayload) : List Byte :=
  [p.budget, p.mode] ++ bytesOfHalf p.resumeDeadline ++ [p.holdTime] ++ bytesOfHalf p.sleepInterval ++ [p.acPolicy]

/-- The frame that carries a request; none for a command that is no request of Table 11-1. -/
def requestFrame : Instr → Option (List Byte)
  | .status => some (writeFrame 0x01 [])
  | .enter target dwell => some (writeFrame 0x02 (target :: bytesOfHalf dwell))
  | .wake => some (writeFrame 0x03 [])
  | .checkin => some (writeFrame 0x04 [])
  | .hold field => some (writeFrame 0x05 [field])
  | .proceed => some (writeFrame 0x06 [])
  | .last => some (writeFrame 0x07 [])
  | .nodeGet slot => some (writeFrame 0x10 [slot])
  | .nodePut payload => some (writeFrame 0x11 payload)
  | .clearFault slot => some (writeFrame 0x12 [slot])
  | .readRail slot => some (writeFrame 0x13 [slot])
  | .sourceGet id => some (writeFrame 0x18 [id])
  | .sourcePut p => some (writeFrame 0x19 (sourcePayloadBytes p))
  | .settingsGet => some (writeFrame 0x1C [])
  | .settingsPut p => some (writeFrame 0x1D (settingsPayloadBytes p))
  | .save => some (writeFrame 0x1E [])
  | .invalidRequest _ | .ignoredWrite _ | .busProbe _ | .readTransaction _ | .partReset _ | .loadEvent _
  | .saveEnd _ | .continuousRound _ | .sleepRoundBegin | .sleepRoundPass _ | .rampDeadlineExpiry _
  | .settleTimeExpiry _ | .dischargeDeadlineExpiry _ | .wakeLineChange _ _ | .wakeDebounceExpiry _
  | .countWindowExpiry _ | .pwrbtnChange _ | .buttonDebounceExpiry | .holdTimerExpiry | .segmentExpiry
  | .inputPinChange _ _ | .inputFilterExpiry _ | .dwellExpiry | .watchdogWarn | .watchdogExpiry => none

/-- The request a checked frame's type and payload stand for (Table 11-1, R199). -/
def requestOfPayload (type : Byte) (p : List Byte) : Option Instr :=
  match type.toNat with
  | 0x01 => some .status
  | 0x02 => some (.enter (byteAt p 0) (halfOfBytes (byteAt p 1) (byteAt p 2)))
  | 0x03 => some .wake
  | 0x04 => some .checkin
  | 0x05 => some (.hold (byteAt p 0))
  | 0x06 => some .proceed
  | 0x07 => some .last
  | 0x10 => some (.nodeGet (byteAt p 0))
  | 0x11 => some (.nodePut p)
  | 0x12 => some (.clearFault (byteAt p 0))
  | 0x13 => some (.readRail (byteAt p 0))
  | 0x18 => some (.sourceGet (byteAt p 0))
  | 0x19 => some (.sourcePut ⟨byteAt p 0, byteAt p 1, byteAt p 2, byteAt p 3,
      halfOfBytes (byteAt p 4) (byteAt p 5), byteAt p 6, byteAt p 7, byteAt p 8⟩)
  | 0x1C => some .settingsGet
  | 0x1D => some (.settingsPut ⟨byteAt p 0, byteAt p 1, halfOfBytes (byteAt p 2) (byteAt p 3), byteAt p 4,
      halfOfBytes (byteAt p 5) (byteAt p 6), byteAt p 7⟩)
  | 0x1E => some .save
  | _ => none

/-- The command that the data bytes of a write transaction are, when the reply slot is empty (R190, R191). -/
def commandOfWrite (bytes : List Byte) (address : BitVec 7) : Option Instr :=
  match frameVerdict bytes with
  | .probe => some (.busProbe address)
  | .ignored => some (.ignoredWrite bytes)
  | .badFrame => some (.invalidRequest bytes)
  | .badType => some (.invalidRequest bytes)
  | .request type p => requestOfPayload type p

end Sys2Proof
end

