-- ==== Sys2Proof/Machine/Operands.lean ====
section
/-! DEFINITION. The byte forms of everything that crosses the bus or lies in the stored image: the codes of
Table 11-8, the payload rules of R199, the record layout of Table 11-7, and the reading of the same. -/

namespace Sys2Proof.Machine

/-! ### Codes (Tables 11-2 and 11-8) -/

/-- Table 11-8, platform state. -/
def Platform.code : Platform → Nat
  | .working => 0
  | .doze => 1
  | .hibernate => 2
  | .off => 3

/-- The platform state of a code; none outside the list. -/
def platformOf (b : Byte) : Option Platform :=
  match b.toNat with
  | 0 => some .working
  | 1 => some .doze
  | 2 => some .hibernate
  | 3 => some .off
  | _ => none

/-- Table 11-8, engine phase. -/
def Phase.code : Phase → Nat
  | .idle => 0
  | .lowering => 1
  | .raising => 2
  | .reversing => 3
  | .draining => 4

/-- Table 11-8, transition kind. -/
def Kind.code : Kind → Nat
  | .up => 0
  | .dozeOut => 1
  | .dozeIn => 2
  | .down => 3
  | .drop => 4
  | .relevel => 5

/-- Table 11-8, origin. -/
def Origin.code : Origin → Nat
  | .request => 0
  | .wake => 1
  | .chain => 2
  | .recovery => 3
  | .acRestore => 4
  | .start => 5

/-- Table 11-8, outcome. -/
def Ended.code : Ended → Nat
  | .completed => 0
  | .reversed => 1
  | .unwound => 2
  | .emergency => 3

/-- Table 11-8, emergency cause. -/
def Cause.code : Cause → Nat
  | .longPress => 0
  | .thermal => 1
  | .acfail => 2
  | .critical => 3

/-- Table 11-8, lockout. -/
def Lockout.code : Lockout → Nat
  | .none => 0
  | .resume => 1
  | .thermal => 2

/-- Table 11-8, node state. -/
def NodeState.code : NodeState → Nat
  | .off => 0
  | .pending _ => 1
  | .queued => 2
  | .ramping => 3
  | .settling => 4
  | .good => 5
  | .stopping => 6
  | .discharging => 7
  | .faulted _ => 8

/-- Table 11-8, fault kind. -/
def FaultKind.code : FaultKind → Nat
  | .ramp => 0
  | .overvolt => 1
  | .dropout => 2
  | .discharge => 3
  | .handshake => 4
  | .blocked => 5

/-- Table 11-8, consequence. -/
def Consequence.code : Consequence → Nat
  | .none => 0
  | .unwind => 1
  | .emergency => 2

/-- Table 11-8, sample class. -/
def SampleClass.code : SampleClass → Nat
  | .none => 0
  | .inBand => 1
  | .underBand => 2
  | .overBand => 3
  | .ok => 4
  | .badLow => 5
  | .badHigh => 6
  | .discharged => 7
  | .notDischarged => 8

/-- Table 11-8, held action. -/
def ActKind.code : ActKind → Nat
  | .on => 0
  | .off => 1
  | .undoOn => 2
  | .undoOff => 3

/-- Table 11-8, wake mode. -/
def WakeMode.code : WakeMode → Nat
  | .levelHigh => 0
  | .levelLow => 1
  | .rising => 2
  | .falling => 3

/-- The wake mode of a code; none outside the list. -/
def wakeModeOf (b : Byte) : Option WakeMode :=
  match b.toNat with
  | 0 => some .levelHigh
  | 1 => some .levelLow
  | 2 => some .rising
  | 3 => some .falling
  | _ => none

/-- Table 11-8, entry policy. -/
def Policy.code : Policy → Nat
  | .reverse => 0
  | .defer => 1

/-- The entry policy of a code; none outside the list. -/
def policyOf (b : Byte) : Option Policy :=
  match b.toNat with
  | 0 => some .reverse
  | 1 => some .defer
  | _ => none

/-- Table 11-8, qualifier state. -/
def QualState.code : QualState → Nat
  | .idle => 0
  | .debouncing => 1
  | .active => 2
  | .counting => 3

/-- Table 11-8, arbiter mode. -/
def ArbiterMode.code : ArbiterMode → Nat
  | .fixed => 0
  | .rotating => 1

/-- The arbiter mode of a code; none outside the list. -/
def arbiterModeOf (b : Byte) : Option ArbiterMode :=
  match b.toNat with
  | 0 => some .fixed
  | 1 => some .rotating
  | _ => none

/-- Table 11-8, AC policy. -/
def AcPolicy.code : AcPolicy → Nat
  | .stayOff => 0
  | .powerOn => 1

/-- The AC policy of a code; none outside the list. -/
def acPolicyOf (b : Byte) : Option AcPolicy :=
  match b.toNat with
  | 0 => some .stayOff
  | 1 => some .powerOn
  | _ => none

/-- R206, STORE operation. -/
def StoreOp.code : StoreOp → Nat
  | .load => 0
  | .save => 1

/-- R206, STORE result. -/
def StoreResult.code : StoreResult → Nat
  | .ok => 0
  | .noMarker => 1
  | .badCrc => 2
  | .verify => 3

/-- Table 11-2, the status byte. -/
def Status.code : Status → Nat
  | .ok => 0x00
  | .accepted => 0x01
  | .clamped => 0x02
  | .busy => 0x10
  | .state => 0x11
  | .range => 0x12
  | .ref => 0x13
  | .cycle => 0x14
  | .clash => 0x15
  | .live => 0x16
  | .inUse => 0x17
  | .frame => 0x18
  | .type => 0x19

/-- Table 11-3, the TYPE of a notice. -/
def NoticeKind.type : NoticeKind → Nat
  | .done => 0x41
  | .fault => 0x42
  | .button => 0x43
  | .warn => 0x44
  | .held => 0x45
  | .store => 0x46
  | .acfail => 0x47

/-- The kind of a notice. -/
def Notice.kind : Notice → NoticeKind
  | .done _ => .done
  | .fault .. => .fault
  | .button .. => .button
  | .warn .. => .warn
  | .held .. => .held
  | .store .. => .store
  | .acfail .. => .acfail

/-! ### Payload rules (R199) -/

/-- A flag: 0 for clear, 1 for set. -/
def flagByte (b : Bool) : Byte := if b then 1 else 0

/-- An optional field of one byte holds 0xFF when absent. -/
def optByte (o : Option Nat) : Byte :=
  match o with
  | none => 0xFF
  | some n => byte1 n

/-- An optional number of two bytes is preceded by a presence byte and sent as 0 when absent. -/
def optNum2 (o : Option Nat) : List Byte :=
  match o with
  | none => [0, 0, 0]
  | some n => 1 :: byte2 n

/-- A set of states: bit 0 DOZE, bit 1 HIBERNATE, bit 2 OFF. -/
def armedByte (a : Armed) : Byte :=
  byte1 ((if a.doze then 1 else 0) + (if a.hibernate then 2 else 0) + (if a.off then 4 else 0))

/-- The set of a byte; none when another bit is set. -/
def armedOf (b : Byte) : Option Armed :=
  if b.toNat < 8 then some ⟨b.getLsbD 0, b.getLsbD 1, b.getLsbD 2⟩ else none

/-- The fault kind of a node, present while FAULTED (R39). -/
def NodeState.faultKind : NodeState → Option FaultKind
  | .faulted k => some k
  | .off | .pending _ | .queued | .ramping | .settling | .good | .stopping | .discharging => none

/-- A number within a bound as a finite index. -/
def finOf (n : Nat) (b : Byte) : Option (Fin n) :=
  if h : b.toNat < n then some ⟨b.toNat, h⟩ else none

/-! ### Node records (Table 11-7, R200) -/

/-- The level named by a polarity bit. -/
def levelOfBit (b : Bool) : Level := if b then .high else .low

/-- Whether a polarity is HIGH. -/
def isHigh : Level → Bool
  | .high => true
  | .low => false

/-- The four prerequisite bytes: the list from byte 8, then 0xFF. -/
def prereqBytes (l : List Slot) : List Byte :=
  (l.map (fun s : Slot => byte1 s.val) ++ [0xFF, 0xFF, 0xFF, 0xFF]).take 4

/-- The kind byte of a slot. -/
def kindCode : Option NodeRecord → Nat
  | none => 0
  | some r =>
    match r.body with
    | .rail .. => 1
    | .signal => 2
    | .handshake .. => 3

/-- The good source byte; 0 when not held. -/
def sourceCode : NodeBody → Nat
  | .rail (.analog ..) _ _ _ => 0
  | .rail (.digital ..) _ _ _ => 1
  | .rail .timed _ _ _ => 2
  | .signal => 0
  | .handshake .. => 0

/-- The input line byte; 0 when not held. -/
def inputLine : NodeBody → Nat
  | .rail (.analog c _ _ _) _ _ _ => c.val
  | .rail (.digital i _ _ _) _ _ _ => i.val
  | .rail .timed _ _ _ => 0
  | .signal => 0
  | .handshake a _ _ => a.val

/-- The input polarity bit; 0 when not held. -/
def inputPolarity : NodeBody → Bool
  | .rail (.digital _ p _ _) _ _ _ => isHigh p
  | .handshake _ p _ => isHigh p
  | .rail (.analog ..) _ _ _ => false
  | .rail .timed _ _ _ => false
  | .signal => false

/-- The priority and retries byte, the weight byte. -/
def railBytes : NodeBody → List Byte
  | .rail _ priority weight retries => [byte1 (priority + 16 * retries), byte1 weight]
  | .signal | .handshake .. => [0, 0]

/-- The counts byte. -/
def countsByte : NodeBody → Byte
  | .rail (.analog _ _ g b) _ _ _ => byte1 (g + 16 * b)
  | .rail (.digital _ _ g b) _ _ _ => byte1 (g + 16 * b)
  | .handshake _ _ g => byte1 g
  | .rail .timed _ _ _ => 0
  | .signal => 0

/-- Bytes 22..31: the window. -/
def windowBytes (w : Window) : List Byte :=
  byte2 w.nominal ++ byte2 w.scale ++ [byte1 w.underTol, byte1 w.overTol] ++ byte2 w.hysteresis ++ byte2 w.threshold

/-- The window part, present for a RAIL with ANALOG source. -/
def windowPart : NodeBody → List Byte
  | .rail (.analog _ w _ _) _ _ _ => windowBytes w
  | .rail (.digital ..) _ _ _ => []
  | .rail .timed _ _ _ => []
  | .signal => []
  | .handshake .. => []

/-- The levels byte. -/
def levelsByte (l : Levels) : Byte :=
  byte1 ((if l.working then 1 else 0) + (if l.doze then 2 else 0) + (if l.hibernate then 4 else 0)
    + (if l.off then 8 else 0))

/-- The class byte. -/
def classByte (r : NodeRecord) : Byte :=
  byte1 ((if r.severity = .critical then 1 else 0) + (if r.irreversible then 2 else 0))

/-- A slot's record in the layout of Table 11-7; a field the kind does not hold is 0 (R200). -/
def recordBytes (i : Slot) (rec : Option NodeRecord) : List Byte :=
  match rec with
  | none => byte1 i.val :: List.replicate 21 0
  | some r =>
    [byte1 i.val, byte1 (kindCode rec), byte1 (sourceCode r.body), byte1 r.output.val, byte1 (inputLine r.body),
      byte1 ((if isHigh r.polarity then 1 else 0) + (if inputPolarity r.body then 2 else 0)),
      levelsByte r.levels, classByte r]
    ++ prereqBytes r.prereqs ++ railBytes r.body
    ++ byte2 r.ramp ++ byte2 r.settle ++ byte2 r.discharge ++ [countsByte r.body, 0] ++ windowPart r.body

/-- The length a record's own kind and good source bytes call for (R40, R200). -/
def recordLength (p : List Byte) : Nat :=
  if byteAt p 1 = 1 ∧ byteAt p 2 = 0 then 32 else 22

/-- The prerequisite list of bytes 8..11: the entries that are not 0xFF; none when one is above 19 or stands
twice (R42, R200). -/
def parsePrereqs (p : List Byte) : Option (List Slot) :=
  let entries := [byteAt p 8, byteAt p 9, byteAt p 10, byteAt p 11].filter (fun b => b ≠ 0xFF)
  match entries.mapM (finOf 20) with
  | none => none
  | some l => if l.Nodup then some l else none

/-- The low nibble of a byte. -/
def loNibble (b : Byte) : Nat := b.toNat % 16

/-- The high nibble of a byte. -/
def hiNibble (b : Byte) : Nat := b.toNat / 16

/-- The window of bytes 22..31. -/
def parseWindow (p : List Byte) : Window :=
  ⟨numAt2 p 22, numAt2 p 24, (byteAt p 26).toNat, (byteAt p 27).toNat, numAt2 p 28, numAt2 p 30⟩

/-- The good source of a RAIL record; none when the code or the input line lies outside its list (R42). -/
def parseGoodSource (p : List Byte) : Option GoodSource :=
  let nGood := loNibble (byteAt p 20)
  let nBad := hiNibble (byteAt p 20)
  match (byteAt p 2).toNat with
  | 0 => (finOf 12 (byteAt p 4)).map (fun c => .analog c (parseWindow p) nGood nBad)
  | 1 => (finOf 12 (byteAt p 4)).map (fun i => .digital i (levelOfBit ((byteAt p 5).getLsbD 1)) nGood nBad)
  | 2 => some .timed
  | _ => none

/-- The part of a record only its kind holds; none when a value lies outside its list (R42). -/
def parseBody (p : List Byte) : Option NodeBody :=
  match (byteAt p 1).toNat with
  | 1 => (parseGoodSource p).map
      (fun g => .rail g (loNibble (byteAt p 12)) (byteAt p 13).toNat (hiNibble (byteAt p 12)))
  | 2 => some .signal
  | 3 => (finOf 12 (byteAt p 4)).map
      (fun a => .handshake a (levelOfBit ((byteAt p 5).getLsbD 1)) (loNibble (byteAt p 20)))
  | _ => none

/-- The record of kind RAIL, SIGNAL or HANDSHAKE in a payload; none when a value it holds lies outside its list
(R42, R200). Numbers are as sent, before any clamp. -/
def parseNode (p : List Byte) : Option NodeRecord :=
  if (byteAt p 5).toNat < 4 ∧ (byteAt p 6).toNat < 16 ∧ (byteAt p 7).toNat < 4 then
    match parseBody p, finOf 16 (byteAt p 3), parsePrereqs p with
    | some body, some out, some pre =>
      some { output := out
             polarity := levelOfBit ((byteAt p 5).getLsbD 0)
             levels := ⟨(byteAt p 6).getLsbD 0, (byteAt p 6).getLsbD 1, (byteAt p 6).getLsbD 2, (byteAt p 6).getLsbD 3⟩
             prereqs := pre
             severity := if (byteAt p 7).getLsbD 0 then .critical else .tolerated
             irreversible := (byteAt p 7).getLsbD 1
             ramp := numAt2 p 14
             settle := numAt2 p 16
             discharge := numAt2 p 18
             body := body }
    | _, _, _ => none
  else none

/-- A slot's record read from the layout of Table 11-7: the outer none refuses the bytes (R42), the inner none is
kind NONE, of which nothing else is checked (R30). -/
def parseRecord (p : List Byte) : Option (Option NodeRecord) :=
  if (byteAt p 1).toNat = 0 then some none else (parseNode p).map some

/-! ### Source records and settings (R199) -/

/-- The eight field bytes of a line's record, in the order of the field table of R109. -/
def lineFields (r : LineRecord) : List Byte :=
  [byte1 r.mode.code, byte1 r.debounce, byte1 r.edgeCount] ++ byte2 r.window
    ++ [armedByte r.armed, byte1 r.priority, byte1 r.policy.code]

/-- The eight field bytes of a source's record; fields it does not hold are 0 in a SOURCE_GET reply (R109, R126). The
stored image has the same bytes there: R201 leaves them open, and 0 is the model's choice (entry 41). -/
def sourceFields (cfg : WorkingConfig) (id : SourceId) : List Byte :=
  if h : id.val < 8 then lineFields cfg.lines[id.val]
  else if id.val = 8 then [0, 0, 0, 0, 0, 0, byte1 cfg.button.priority, byte1 cfg.button.policy.code]
  else [0, 0, 0, 0, 0, armedByte cfg.link.armed, byte1 cfg.link.priority, byte1 cfg.link.policy.code]

/-- The six settings in the order of R205, eight bytes. -/
def settingsBytes (t : Settings) : List Byte :=
  [byte1 t.budget, byte1 t.mode.code] ++ byte2 t.resumeDeadline ++ [byte1 t.holdTime] ++ byte2 t.sleepInterval
    ++ [byte1 t.acPolicy.code]

/-! ### Transition records and notices -/

/-- The fields of Table 11-6 from the kind to the duration. -/
def doneFields (r : Record) : List Byte :=
  [byte1 r.kind.code, byte1 r.source.code, byte1 r.target.code, optByte (r.reached.map Platform.code),
    optByte (r.origin.map Origin.code), optByte (r.outcome.map Ended.code), optByte (r.wake.map Fin.val),
    optByte (r.fault.map (fun f => f.1.val)), optByte (r.fault.map (fun f => f.2.code)),
    optByte (r.cause.map Cause.code), byte1 r.absorbed.length]
  ++ byte2 r.duration

/-- The fields of a notice after its merge count. -/
def noticeFields : Notice → List Byte
  | .done r => doneFields r
  | .fault slot kind sample phase transition consequence =>
    [byte1 slot.val, byte1 kind.code] ++ optNum2 sample
      ++ [byte1 phase.code, optByte (transition.map Kind.code), byte1 consequence.code]
  | .button length phase transition => byte2 length ++ [byte1 phase.code, optByte (transition.map Kind.code)]
  | .warn remaining counter kind outcome =>
    byte4 remaining ++ [byte1 counter, byte1 kind.code, byte1 outcome.code]
  | .held slot act => [byte1 slot.val, byte1 act.code]
  | .store op result => [byte1 op.code, byte1 result.code]
  | .acfail platform phase emergency => [byte1 platform.code, byte1 phase.code, flagByte emergency]

/-- The frame of a notice: TYPE, LEN, merge count, fields (Table 11-4). -/
def noticeFrame (n : NoticeEntry) : List Byte :=
  writeFrame n.notice.kind.type (byte1 n.count :: noticeFields n.notice)

/-- The frame of a reply: the request's type plus 0x80 modulo 256, LEN, status, contents (R192). -/
def replyFrame (type : Nat) (status : Status) (contents : List Byte) : List Byte :=
  writeFrame (type + 0x80) (byte1 status.code :: contents)

/-- The empty frame (R193). -/
def emptyFrame : List Byte := [0, 0]

end Sys2Proof.Machine
end

