-- ==== Sys2Proof/Machine/Ops.lean ====
section
/-! DEFINITION. The named operations on the board: writing a slot, posting a notice, changing a node state with all
that goes with it, and the switch's answers to an on action, an off action and a release. -/

namespace Sys2Proof.Machine

/-! ### Slots and output lines -/

/-- Write the live half of a slot. -/
def Board.setNode (b : Board) (i : Slot) (n : Node) : Board := { b with nodes := b.nodes.set i.val n i.isLt }

/-- Change the live half of a slot by a function. -/
def Board.updNode (b : Board) (i : Slot) (f : Node → Node) : Board := b.setNode i (f (b.node i))

/-- Drive or release an output line (R31). -/
def Board.drive (b : Board) (o : Fin 16) (d : Drive) : Board := { b with outs := b.outs.set o.val d o.isLt }

/-- Do something for every slot in ascending order. -/
def Board.forSlots (b : Board) (f : Board → Slot → Board) : Board := slots.foldl f b

/-! ### Notices (R195) -/

/-- Replace the payload of the entry of the notice's kind and count the merge. The count is at most 255. -/
def mergeNotice (n : Notice) (x : NoticeEntry) : NoticeEntry :=
  if x.notice.kind = n.kind then ⟨n, min 255 (x.count + 1), true⟩ else x

/-- Post a notice into a queue: one entry of each kind, new kinds at the end. -/
def postInto (q : List NoticeEntry) (n : Notice) : List NoticeEntry :=
  if q.any (fun x => x.notice.kind = n.kind) then q.map (mergeNotice n) else q ++ [⟨n, 1, false⟩]

/-- Post a notice. -/
def Board.post (b : Board) (n : Notice) : Board := { b with notices := postInto b.notices n }

/-! ### Node states -/

/-- The changes over which the bad count runs on (R54). PENDING with the output on counts for an undo-off as for an off
action (entry 35). -/
def badRunsOn : NodeState → NodeState → Bool
  | .settling, .good => true
  | .good, .pending true => true
  | .pending true, .good => true
  | _, _ => false

/-- A node after a change of node state: counters restarted, the deadline of the new state, the context cleared at
OFF and FAULTED (R54), the unobserved mark kept only in DISCHARGING (R89), the charge kept only in RAMPING (R78). -/
def Node.withState (n : Node) (st : NodeState) (dl : Option Deadline) : Node :=
  { n with
    state := st
    inCount := 0
    overCount := 0
    badCount := if badRunsOn n.state st then n.badCount else 0
    offCount := 0
    unobserved := n.unobserved && st == .discharging
    deadline := dl
    ending := if st.isDown then .off else n.ending
    failure := n.failure && !st.isDown
    forced := n.forced && !st.isDown
    charge := if st = .ramping then n.charge else 0 }

/-- The budget in use after a node takes a state: its charge is released when it leaves RAMPING (R78). -/
def releasedBudget (inUse : Nat) (n : Node) (st : NodeState) : Nat :=
  if n.state = .ramping ∧ st ≠ .ramping then inUse - n.charge else inUse

/-- The output lines after a node takes a state: its line is at the level the state names (R52). -/
def outsFor (cfg : WorkingConfig) (outs : Vector Drive 16) (i : Slot) (st : NodeState) : Vector Drive 16 :=
  match cfg.node i with
  | none => outs
  | some r => outs.set r.output.val (.driven (r.outLevel st.level)) r.output.isLt

/-- The change of a node state, with its output, context, counters and charge (R52, R54, R78). -/
def enter (cfg : WorkingConfig) (b : Board) (i : Slot) (st : NodeState) (dl : Option Deadline) : Board :=
  { b with
    nodes := b.nodes.set i.val ((b.node i).withState st dl) i.isLt
    outs := outsFor cfg b.outs i st
    inUse := releasedBudget b.inUse (b.node i) st }

/-- A node whose output goes to its off level and that runs its discharge or off hold: DISCHARGING for a RAIL,
STOPPING otherwise, the discharge deadline running (R56). -/
def fall (e : Env) (b : Board) (i : Slot) : Board :=
  match e.cfg.node i with
  | none => b
  | some r =>
    enter e.cfg b i (if r.body.isRail then .discharging else .stopping) (some ⟨.discharge, e.now + r.discharge⟩)

/-- A node enters SETTLING with its settle time running; a settle time of 0 makes it GOOD at once (R55, R59). -/
def toSettling (e : Env) (b : Board) (i : Slot) : Board :=
  match e.cfg.node i with
  | none => b
  | some r =>
    if r.settle = 0 then enter e.cfg b i .good none
    else enter e.cfg b i .settling (some ⟨.settle, e.now + r.settle⟩)

/-- A node enters RAMPING with its ramp deadline running (R55). -/
def toRamping (e : Env) (b : Board) (i : Slot) : Board :=
  match e.cfg.node i with
  | none => b
  | some r => enter e.cfg b i .ramping (some ⟨.ramp, e.now + r.ramp⟩)

/-! ### Fault reports -/

/-- The last sample a fault report carries: held for an ANALOG source (R75). -/
def faultSample (cfg : WorkingConfig) (b : Board) (i : Slot) : Option Nat :=
  match cfg.node i with
  | none => none
  | some r => if r.body.isAnalog then (b.node i).lastSample else none

/-- The fault field of the record: the first node fault of the transition, replaced only by a critical one (R18).
A fault in DRAINING is in no transition. -/
def recordFault (b : Board) (i : Slot) (k : FaultKind) (replaces : Bool) : Option Record :=
  if b.phase.inTransition then
    b.record.map (fun r => { r with fault := if r.fault.isNone || replaces then some (i, k) else r.fault })
  else b.record

/-- A node becomes FAULTED and its fault is reported with a consequence (R75, R148, R18). An on member that was
still falling from an earlier cascade leaves the change set (R12). In LOWERING the test of R17 falls due. -/
def reportFault (e : Env) (b : Board) (i : Slot) (k : FaultKind) (c : Consequence) : Board :=
  let notice := Notice.fault i k (faultSample e.cfg b i) b.phase b.transitionKind c
  let leaves := b.phase == .lowering && (b.stateOf i).isFalling && (b.node i).member == some true
  let b1 := { (enter e.cfg b i (.faulted k) none) with
    record := recordFault b i k (c != Consequence.none)
    blockTest := b.blockTest || b.phase == Phase.lowering }
  (b1.updNode i (fun n => { n with member := if leaves then none else n.member })).post notice

/-! ### Release (R73) -/

/-- A node takes its ending at a release or at the end of one: OFF, or FAULTED with kind BLOCKED, a fault without a
consequence of its own (R149). -/
def takeQuietEnding (e : Env) (b : Board) (i : Slot) (ending : Ending) (c : Consequence) : Board :=
  match ending with
  | .off => enter e.cfg b i .off none
  | .blocked => reportFault e b i .blocked c

/-- The context a release leaves on a node in flight. -/
def Node.releasedWith (n : Node) (ending : Ending) : Node :=
  { n with ending := ending, failure := false, forced := true }

/-- The fault handler releases a node (R73). An ending taken at once carries the consequence of the fault that
caused the release. -/
def release (e : Env) (b : Board) (i : Slot) (ending : Ending) (c : Consequence) : Board :=
  match b.stateOf i with
  | .off | .faulted _ => b
  | .queued | .pending false => takeQuietEnding e b i ending c
  | .pending true | .ramping | .settling | .good => (fall e b i).updNode i (·.releasedWith ending)
  | .stopping | .discharging => b.updNode i (·.releasedWith ending)

end Sys2Proof.Machine
end

