-- ==== Sys2Proof/Machine/WakeUnit.lean ====
section
/-! DEFINITION. The board's side of the wake unit and of reversal: arming, the service choice, the pending wake list,
the begin of REVERSING and the fate of an arrival. -/

namespace Sys2Proof.Machine

/-- The source id of the front panel's arrivals (R108). -/
def buttonId : SourceId := 8

/-- The source id of WAKE requests (R108). -/
def linkId : SourceId := 9

/-- The armed set contains a platform state; none contains WORKING (R115). -/
def Armed.has (a : Armed) : Platform → Bool
  | .working => false
  | .doze => a.doze
  | .hibernate => a.hibernate
  | .off => a.off

/-- The armed set of a source; BUTTON's is fixed (R109). -/
def WorkingConfig.armedSet (cfg : WorkingConfig) (id : SourceId) : Armed :=
  if h : id.val < 8 then (cfg.line ⟨id.val, h⟩).armed
  else if id = buttonId then ⟨true, true, true⟩
  else cfg.link.armed

/-- The priority of a source. -/
def WorkingConfig.wakePriority (cfg : WorkingConfig) (id : SourceId) : Nat :=
  if h : id.val < 8 then (cfg.line ⟨id.val, h⟩).priority
  else if id = buttonId then cfg.button.priority
  else cfg.link.priority

/-- The entry policy of a source. -/
def WorkingConfig.wakePolicy (cfg : WorkingConfig) (id : SourceId) : Policy :=
  if h : id.val < 8 then (cfg.line ⟨id.val, h⟩).policy
  else if id = buttonId then cfg.button.policy
  else cfg.link.policy

/-- The arming situation of the engine allows a source with this armed set (R115). -/
def armedBySituation (b : Board) (a : Armed) : Bool :=
  match b.phase with
  | .idle => a.has b.platform
  | .draining => a.has .off
  | .lowering | .raising | .reversing =>
    match b.record with
    | none => false
    | some r => a.has r.source || a.has r.target

/-- A source is armed (R115, R116). -/
def armed (e : Env) (b : Board) (id : SourceId) : Bool :=
  if e.unconfigured then false
  else if b.lockout ≠ .none then id == buttonId
  else armedBySituation b (e.cfg.armedSet id)

/-- The service choice: the lowest priority number, the earliest of equals (R122). -/
def pickWake (cfg : WorkingConfig) : List SourceId → Option SourceId
  | [] => none
  | id :: l =>
    match pickWake cfg l with
    | none => some id
    | some best => if cfg.wakePriority id ≤ cfg.wakePriority best then some id else some best

/-- A source joins the pending wake list at its end, unless it is on it (R121). -/
def joinList (l : List SourceId) (id : SourceId) : List SourceId := if id ∈ l then l else l ++ [id]

/-- A lockout is set: the list is emptied and the AC restore mark cleared (R157). -/
def setLockout (b : Board) (l : Lockout) : Board := { b with lockout := l, wakes := [], acRestore := false }

/-! ### The begin of REVERSING (R132) -/

/-- Steps 3 and 4: a QUEUED node takes OFF, a PENDING node returns to its start level. -/
def returnToStart (e : Env) (b : Board) (i : Slot) : Board :=
  match b.stateOf i with
  | .queued => enter e.cfg b i .off none
  | .pending true => enter e.cfg b i .good none
  | .pending false => enter e.cfg b i .off none
  | .off | .ramping | .settling | .good | .stopping | .discharging | .faulted _ => b

/-- A member that was still falling from an earlier cascade when the transition started: it falls as an on member with
no entry on the stack (R12). -/
def Node.stillFalls (n : Node) (hasEntry : Bool) : Bool :=
  n.state.isFalling && n.member == some true && !hasEntry

/-- Steps 4 to 7 on the slot itself: no member, the target is the start level, an off action's ending BLOCKED becomes
OFF, a failure mark in DISCHARGING is cleared, and a former member that still falls from an earlier cascade stays OFF at
rest. A node that a cascade of this transition released keeps the release's ending (R135; entry 43). -/
def Node.dissolve (n : Node) (hasEntry : Bool) : Node :=
  { n with
    member := none
    levelBlocked := false
    target := n.startLevel
    ending := if (n.state.isFalling && !n.forced) || n.stillFalls hasEntry then .off else n.ending
    failure := n.failure && !(n.state == .discharging) }

/-- Step 8: a node whose start level is on and that a cascade released without an entry on the stack. -/
def blockReleased (e : Env) (b : Board) (i : Slot) : Board :=
  if (b.node i).startLevel && !listed b.stack i then
    match b.stateOf i with
    | .off => reportFault e b i .blocked .none
    | .stopping | .discharging => b.updNode i (fun n => { n with ending := .blocked })
    | .pending _ | .queued | .ramping | .settling | .good | .faulted _ => b
  else b

/-- REVERSING begins, for a reversal or an unwind (R132). -/
def beginReversing (e : Env) (b : Board) : Board :=
  let b1 := { b with phase := .reversing, issue := [], emptyChange := false, blockTest := false, held := false }
  let b2 := b1.forSlots (returnToStart e)
  let b3 := { b2 with nodes := Vector.ofFn (fun i => (b2.node i).dissolve (listed b2.stack i)) }
  b3.forSlots (blockReleased e)

/-! ### Arrivals -/

/-- The fault handler decides a BUTTON arrival under a lockout: RESUME is cleared, THERMAL only while HOTSHUT_N is
inactive (R158). None where the arrival is discarded. -/
def clearLockout (e : Env) (b : Board) : Option Board :=
  match b.lockout with
  | .none => some b
  | .resume => some { b with lockout := .none, counter := 0 }
  | .thermal => if e.hotshutActive then none else some { b with lockout := .none, counter := 0 }

/-- An armed arrival is a reversal cause (R119). -/
def reverses (cfg : WorkingConfig) (b : Board) (id : SourceId) (r : Record) : Bool :=
  (b.phase == .lowering || b.phase == .raising) && r.kind.isDownward && b.reversible
    && cfg.wakePolicy id == .reverse

/-- The fate of an armed arrival: it reverses the transition or joins the list (R118, R119). A source that reverses
a DROP is placed on the list as well. -/
def takeArrival (e : Env) (b : Board) (id : SourceId) : Board :=
  match b.record with
  | none => { b with wakes := joinList b.wakes id }
  | some r =>
    if reverses e.cfg b id r then
      beginReversing e { b with
        record := some { r with wake := some id }
        wakes := if r.source.isSleeping then joinList b.wakes id else b.wakes }
    else { b with wakes := joinList b.wakes id }

/-- An arrival whose source is not armed is discarded (R115). -/
def takeIfArmed (e : Env) (b : Board) (id : SourceId) : Board :=
  if armed e b id then takeArrival e b id else b

/-- An arrival of a source (R114 to R119); a BUTTON arrival under a lockout goes to the fault handler first (R116). -/
def arrive (e : Env) (b : Board) (id : SourceId) : Board :=
  if id = buttonId then
    match clearLockout e b with
    | none => b
    | some b1 => takeIfArmed e b1 id
  else takeIfArmed e b id

end Sys2Proof.Machine
end

