-- ==== Sys2Proof/Machine/Faults.lean ====
section
/-! DEFINITION. The fault handler: what a fault does to the board, the cascade, the begin and end of emergency off
(Chapter 8), and the ends of discharges, ramps and handshakes at the switch that lead to faults (Chapter 3). -/

namespace Sys2Proof.Machine

/-! ### Ends of transitions share this (R24) -/

/-- The plan of a transition dissolved from a slot. -/
def Node.clearPlan (n : Node) : Node :=
  { n with target := false, levelBlocked := false, member := none, startLevel := false }

/-- The duration of the open record, saturating (R23). -/
def durationOf (e : Env) (b : Board) : Nat := min 65535 (e.now - b.startedAt)

/-- The engine returns to IDLE: the issue list, the stack, the change set and the requested dwell are gone. -/
def returnToIdle (b : Board) : Board :=
  { b with
    nodes := b.nodes.map Node.clearPlan
    phase := .idle
    record := none
    held := false
    issue := []
    emptyChange := false
    stack := []
    reversible := false
    requestedDwell := none }

/-- A transition ends: its record becomes the last record and a DONE notice is posted (R24). -/
def closeTransition (b : Board) (r : Record) : Board :=
  { returnToIdle b with last := some r, notices := postInto b.notices (.done r) }

/-! ### Emergency off (R153 to R156) -/

/-- The kind of a record opened by an emergency off while IDLE (R23). -/
def emergencyKind : Platform → Kind
  | .working => .down
  | .doze | .hibernate => .drop
  | .off => .relevel

/-- The record an emergency off opens while IDLE, or keeps: a wake source written by a reversal is made absent
(R144), and with cause CRITICAL the fault field holds the critical fault (R154). -/
def emergencyRecord (b : Board) (fault : Option (Slot × FaultKind)) : Record :=
  match b.record with
  | none => ⟨emergencyKind b.platform, b.platform, .off, none, none, none, none, fault, none, [], 0⟩
  | some r =>
    { r with
      wake := if r.kind.isDownward then none else r.wake
      fault := if fault.isSome then fault else r.fault }

/-- The begin of an emergency off (R154). -/
def emergencyOff (e : Env) (b : Board) (cause : Cause) (fault : Option (Slot × FaultKind)) : Board :=
  let released := b.forSlots (fun b i => release e b i .off .emergency)
  { released with
    nodes := released.nodes.map Node.clearPlan
    phase := .draining
    record := some (emergencyRecord b fault)
    startedAt := if b.record.isNone then e.now else b.startedAt
    held := false
    issue := []
    emptyChange := false
    blockTest := false
    stack := []
    reversible := false
    requestedDwell := none
    followOn := none
    wakes := []
    cause := some cause
    thermalMark := cause == .thermal
    acRestore := false
    dwell := .none
    watchdog := .disarmed
    recovery := false }

/-- The lockout that the end of an emergency off sets (R156, step 3). -/
def lockoutAtEnd (b : Board) : Option Lockout :=
  if b.thermalMark then some .thermal
  else if b.counter = 3 ∧ b.lockout ≠ .thermal then some .resume
  else none

/-- The end of an emergency off (R156). -/
def endEmergency (e : Env) (b : Board) : Board :=
  match b.record with
  | none => returnToIdle b
  | some r =>
    let r1 := { r with reached := some .off, outcome := some .emergency, cause := b.cause, duration := durationOf e b }
    let b1 := { closeTransition b r1 with platform := .off, cause := none, thermalMark := false }
    match lockoutAtEnd b with
    | some l => setLockout b1 l
    | none =>
      { b1 with acRestore := b.acRestore || (b.cause == some .acfail && e.cfg.settings.acPolicy == .powerOn) }

/-! ### Taking a fault (R148 to R151) -/

/-- The nodes the cascade of a loss releases: every transitive dependent that is neither OFF nor FAULTED (R151). -/
def releasedSet (cfg : WorkingConfig) (b : Board) (i : Slot) : List Slot :=
  (cfg.below i).filter (fun d => !(b.stateOf d).isDown)

/-- A fault of a slot is a critical loss: the node is CRITICAL, or its cascade releases a CRITICAL node that is not
already going off (R149). -/
def isCriticalLoss (cfg : WorkingConfig) (b : Board) (i : Slot) (released : List Slot) : Bool :=
  cfg.critical i || released.any (fun d => cfg.critical d && !(b.stateOf d).isFalling)

/-- The consequence that the engine situation and a critical loss give (R150). -/
def consequenceOf (b : Board) (criticalLoss : Bool) : Consequence :=
  if criticalLoss then
    match b.phase with
    | .idle | .reversing => .emergency
    | .draining => .none
    | .lowering | .raising =>
      match b.record with
      | none => .emergency
      | some r => if r.kind.isDownward then .emergency else .unwind
  else .none

/-- The ending of a released node: BLOCKED when its level required at that moment is on. In a transition that is its
target level, which is its start level in REVERSING (R151, R132). -/
def cascadeEnding (cfg : WorkingConfig) (b : Board) (i : Slot) : Ending :=
  if (if b.phase = .idle then cfg.required b.platform i else (b.node i).target) then .blocked else .off

/-- The cascade (R151). -/
def cascade (e : Env) (b : Board) (released : List Slot) (c : Consequence) : Board :=
  released.foldl (fun b i => release e b i (cascadeEnding e.cfg b i) c) b

/-- The fault handler takes a fault of a slot (R148 to R151); `loss` says that it is an uncommanded loss (R74). -/
def takeFault (e : Env) (b : Board) (i : Slot) (k : FaultKind) (loss : Bool) : Board :=
  let released := if loss then releasedSet e.cfg b i else []
  let c := consequenceOf b (isCriticalLoss e.cfg b i released)
  let b1 := reportFault e b i k c
  match c with
  | .none => if b.phase = .draining then b1 else cascade e b1 released .none
  | .unwind => cascade e (beginReversing e b1) released .unwind
  | .emergency => emergencyOff e b1 .critical (some (i, k))

/-! ### Ends of ramps and discharges at the switch -/

/-- A ramp failure (R66). A forward on action that fails after REVERSING has begun sets no failure mark (R135). -/
def rampFailure (e : Env) (b : Board) (i : Slot) : Board :=
  let marks := b.phase != .reversing || b.stack.contains ⟨i, .undoOn⟩
  (fall e b i).updNode i (fun n => { n with failure := marks })

/-- The end of a discharge under a failure mark (R67). Where it ends in REVERSING with a prerequisite not GOOD, R67
takes one from retries left before the node takes BLOCKED, while R76 leaves retries left as it is at a BLOCKED fault;
the model takes R67's order of acts (entry 34). -/
def endFailureDischarge (e : Env) (b : Board) (i : Slot) : Board :=
  let left := (b.node i).retriesLeft
  if left = 0 then takeFault e b i .ramp false
  else
    let b1 := b.updNode i (fun n => { n with retriesLeft := left - 1, failure := false })
    if b.prereqsGood e.cfg i then enter e.cfg b1 i .queued none
    else if b.phase = .reversing then takeFault e b1 i .blocked false
    else enter e.cfg b1 i (.pending false) none

/-- A discharge or an off hold ends without a fault: the failure mark's end, or the ending (R56, R67). A released
node's BLOCKED takes no consequence of its own (R149). -/
def takeEnding (e : Env) (b : Board) (i : Slot) : Board :=
  if (b.node i).failure then endFailureDischarge e b i
  else
    match (b.node i).ending with
    | .off => enter e.cfg b i .off none
    | .blocked => if (b.node i).forced then reportFault e b i .blocked .none else takeFault e b i .blocked false

end Sys2Proof.Machine
end

