-- ==== Sys2Proof/Machine/Engine.lean ====
section
/-! DEFINITION. The transition engine and the inrush arbiter: the start of a transition, its ends, the waiting claims,
and `settleBoard`, which makes every change that follows inside one event (Chapters 1, 4 and 7).

`engineStep` makes the first change its phase calls for; an event is over when it makes none. -/

namespace Sys2Proof.Machine

/-! ### The start of a transition (R9 to R12) -/

/-- The plan of a slot for a transition: start level, target, level-blocked mark, membership, retries left. -/
def Node.plan (n : Node) (cfg : WorkingConfig) (target : Platform) (on : List Slot) (i : Slot) : Node :=
  { n with
    retriesLeft := match cfg.node i with
      | none => n.retriesLeft
      | some r => r.body.retries
    startLevel := n.state.level
    target := on.contains i
    levelBlocked := cfg.required target i && !on.contains i
    member := if n.state.isFaulted || n.state.level == on.contains i then none else some (on.contains i) }

/-- UP and DOZE_OUT return a FAULTED node to OFF (R9). -/
def returnFaulted (cfg : WorkingConfig) (b : Board) (i : Slot) : Board :=
  if (b.stateOf i).isFaulted then enter cfg b i .off none else b

/-- A member that is OFF or GOOD takes PENDING, its output staying where it is (R12). -/
def takePending (cfg : WorkingConfig) (b : Board) (i : Slot) : Board :=
  match (b.node i).member, b.stateOf i with
  | some _, .off => enter cfg b i (.pending false) none
  | some _, .good => enter cfg b i (.pending true) none
  | _, _ => b

/-- A transition starts (R9). Its change set and phase stand when this is done; `settleBoard` goes on from there. -/
def start (e : Env) (b : Board) (kind : Kind) (target : Platform) (origin : Origin) (wake : Option SourceId)
    (dwell : Option Nat) : Board :=
  let b1 := if kind.isResume then b.forSlots (returnFaulted e.cfg) else b
  let on := e.cfg.targetsOn target
  let plan := fun i => (b1.node i).plan e.cfg target on i
  let b2 := { b1 with
    nodes := Vector.ofFn plan
    emptyChange := slots.all (fun i => (plan i).member.isNone)
    phase := .lowering
    record := some ⟨kind, b.platform, target, none, some origin, none, wake, none, none, [], 0⟩
    startedAt := e.now
    held := false
    issue := []
    blockTest := false
    stack := []
    reversible := kind.isDownward && origin != Origin.recovery
    requestedDwell := dwell
    acRestore := b.acRestore && kind != Kind.up
    watchdog := if b.platform = Platform.working ∧ kind ≠ Kind.relevel then .disarmed else b.watchdog
    dwell := if b.platform = Platform.doze ∧ kind ≠ Kind.relevel then .none else b.dwell }
  b2.forSlots (takePending e.cfg)

/-! ### Ends of a transition -/

/-- The resume watchdog at an arming event (R172); a setting of 0 leaves it as it is. -/
def armWatchdog (e : Env) (w : Watchdog) (kind : Kind) (outcome : Ended) : Watchdog :=
  if e.cfg.settings.resumeDeadline = 0 then w
  else .armed (e.cfg.settings.resumeDeadline * 1000) e.now false kind outcome

/-- The follow-on a completion sets (R8, first two cases). -/
def followOnOfCompletion (e : Env) (b : Board) (r : Record) : Option FollowOn :=
  if r.kind = .relevel ∧ r.origin = some .start ∧ e.cfg.settings.acPolicy = .powerOn ∧ e.acokHigh then
    some .acRestoreUp
  else if r.kind = .down ∧ r.origin = some .recovery ∧ r.target = .off ∧ b.counter < 3 then some .recoveryUp
  else none

/-- Completion (R20). -/
def complete (e : Env) (b : Board) : Board :=
  match b.record with
  | none => returnToIdle b
  | some r =>
    let absorbs := r.target == .working
    let r1 := { r with
      reached := some r.target
      outcome := some .completed
      absorbed := if absorbs then b.wakes else []
      duration := durationOf e b }
    { closeTransition b r1 with
      platform := r.target
      wakes := if absorbs then [] else b.wakes
      watchdog := if r.kind.isResume then armWatchdog e b.watchdog r.kind .completed else b.watchdog
      dwell := match r.kind, b.requestedDwell with
        | .dozeIn, some m => .running m (e.now + m * 60000)
        | _, _ => b.dwell
      followOn := followOnOfCompletion e b r }

/-- The resume failure counter after an unwind (R141). -/
def counterAfterUnwind (b : Board) (r : Record) : Nat := if r.kind.isResume then min 3 (b.counter + 1) else b.counter

/-- The end of REVERSING (R139 to R141). A downward transition was reversed, any other unwound. -/
def endReversing (e : Env) (b : Board) : Board :=
  match b.record with
  | none => returnToIdle b
  | some r =>
    let reversed := r.kind.isDownward
    let absorbs := reversed && r.source == .working
    let r1 := { r with
      reached := some r.source
      outcome := some (if reversed then .reversed else .unwound)
      absorbed := if absorbs then b.wakes else []
      duration := durationOf e b }
    let counter := counterAfterUnwind b r
    { closeTransition b r1 with
      wakes := if absorbs then [] else b.wakes
      watchdog := if absorbs then armWatchdog e b.watchdog r.kind .reversed else b.watchdog
      counter := counter
      followOn := if r.kind.isResume ∧ counter = 3 ∧ r.source ≠ .off then some .recoveryDrop else none }

/-! ### Waiting claims (R7, R8) -/

/-- The follow-on claim is taken or lapses (R8). -/
def takeFollowOn (e : Env) (b : Board) (f : FollowOn) : Board :=
  let b1 := { b with followOn := none }
  if b.mayStart e then
    match f with
    | .acRestoreUp => start e b1 .up .working .acRestore none none
    | .recoveryUp => if e.acokHigh then start e b1 .up .working .recovery none none else b1
    | .recoveryDrop => start e b1 .drop .off .recovery none none
  else b1

/-- The recovery claim holds (R7, R176). -/
def recoveryHolds (b : Board) : Bool := b.recovery && b.platform == .working

/-- The chain claim holds (R7, R167). -/
def chainHolds (e : Env) (b : Board) : Bool := b.dwell == .expired && b.platform == .doze && e.acokHigh

/-- The AC restore claim holds (R163). -/
def acRestoreHolds (e : Env) (b : Board) : Bool :=
  b.acRestore && b.platform == .off && e.acokHigh && e.cfg.settings.acPolicy == .powerOn

/-- The entry the wake-service claim serves, while the claim holds (R122). -/
def wakeServed (e : Env) (b : Board) : Option SourceId :=
  if b.platform.isSleeping && e.acokHigh then pickWake e.cfg b.wakes else none

/-- The first waiting claim after the follow-on that an IDLE engine takes (R7). -/
def takeClaim (e : Env) (b : Board) : Option Board :=
  if !b.mayStart e then none
  else if recoveryHolds b then some (start e { b with recovery := false } .down .off .recovery none none)
  else
    match wakeServed e b with
    | some id =>
      some (start e { b with wakes := b.wakes.erase id } (if b.platform = .doze then .dozeOut else .up) .working .wake
        (some id) none)
    | none =>
      if chainHolds e b then some (start e b .drop .hibernate .chain none none)
      else if acRestoreHolds e b then some (start e { b with acRestore := false } .up .working .acRestore none none)
      else none

/-- What an IDLE engine does: the RESUME lockout of R142, then the claims in order. -/
def idleStep (e : Env) (b : Board) : Option Board :=
  if b.platform = .off ∧ b.counter = 3 ∧ b.lockout = .none then some (setLockout b .resume)
  else
    match b.followOn with
    | some f => some (takeFollowOn e b f)
    | none => takeClaim e b

/-! ### The issue list and the rollback stack (R14, R130, R137) -/

/-- Push the entry of a slot; an undo entry takes the place of the slot's forward entry (R137). -/
def pushEntry (b : Board) (i : Slot) (act : ActKind) : Board :=
  { b with stack := ⟨i, act⟩ :: b.stack.filter (fun a => a.slot ≠ i) }

/-- Put slots on the issue list with an action: behind what earlier events have listed, and in slot order among what
this event lists (R14). -/
def enlist (b : Board) (act : ActKind) (l : List Slot) : Board :=
  let fresh := b.issue.filter (fun a => b.listedNow.contains a.slot) ++ l.map (⟨·, act⟩)
  { b with
    issue := b.issue.filter (fun a => !b.listedNow.contains a.slot)
      ++ fresh.insertionSort (fun a c => a.slot ≤ c.slot)
    listedNow := b.listedNow ++ l }

/-- The issue of an on action or undo-on to a node PENDING at its off level (R55). A RAIL joins the arbiter queue;
its entry is pushed at the grant. -/
def issueOn (e : Env) (b : Board) (i : Slot) (act : ActKind) : Board :=
  match e.cfg.node i with
  | none => b
  | some r =>
    match r.body with
    | .rail .. => enter e.cfg b i .queued none
    | .signal => pushEntry (toSettling e b i) i act
    | .handshake .. => pushEntry (toRamping e b i) i act

/-- The issue of an off action or undo-off to a node PENDING at its on level (R56). -/
def issueOff (e : Env) (b : Board) (i : Slot) (act : ActKind) : Board :=
  let ending := if act == .off && (b.node i).levelBlocked then Ending.blocked else .off
  pushEntry ((fall e b i).updNode i (fun n => { n with ending := ending })) i act

/-- The record's irreversible flag. -/
def WorkingConfig.irreversible (cfg : WorkingConfig) (i : Slot) : Bool :=
  match cfg.node i with
  | none => false
  | some r => r.irreversible

/-- One action is issued. An off action clears the reversibility mark at an irreversible node (R131). An action whose
node was released after it was listed finds the node no longer PENDING and does nothing to it. -/
def issueAction (e : Env) (b : Board) (a : Action) : Board :=
  match a.act with
  | .on | .undoOn => if b.stateOf a.slot = .pending false then issueOn e b a.slot a.act else b
  | .off | .undoOff =>
    let b1 := { b with reversible := b.reversible && !(a.act == .off && e.cfg.irreversible a.slot) }
    if b.stateOf a.slot = .pending true then issueOff e b1 a.slot a.act else b1

/-- The head of the issue list is issued (R14, R27). -/
def issueHead (e : Env) (b : Board) : Board :=
  match b.issue with
  | [] => b
  | a :: rest => issueAction e { b with issue := rest, held := false } a

/-- The head is issued, or held with a HELD notice while step hold is on (R26). -/
def issueStep (e : Env) (b : Board) : Option Board :=
  match b.issue with
  | [] => none
  | a :: _ =>
    if b.stepHold then
      if b.held then none else some ({ b with held := true }.post (.held a.slot a.act))
    else some (issueHead e b)

/-- Actions whose node is OFF or FAULTED leave the list (R14). -/
def purgeStep (b : Board) : Option Board :=
  if b.issue.any (fun a => (b.stateOf a.slot).isDown) then
    some { b with
      issue := b.issue.filter (fun a => !(b.stateOf a.slot).isDown)
      held := b.held && !(b.issue.head?.any (fun a => (b.stateOf a.slot).isDown)) }
  else none

/-- The members that have become eligible are listed (R14). -/
def eligibleStep (b : Board) (act : ActKind) (test : Slot → Bool) : Option Board :=
  match slots.filter (fun i => test i && !listed b.issue i) with
  | [] => none
  | l => some (enlist b act l)

/-! ### The arbiter (R83 to R86) -/

/-- The head of the queue may be granted (R84, R85). -/
def mayGrant (e : Env) (b : Board) (i : Slot) : Bool :=
  let budget := e.cfg.settings.budget
  let rails := b.rampingRails e.cfg
  if e.cfg.weight i ≤ budget then
    b.inUse + e.cfg.weight i ≤ budget && rails.all (fun j => e.cfg.weight j ≤ budget)
  else rails.isEmpty

/-- The stack entry of a grant: that of the on action, that of the undo-on, or none for a retry (R86). -/
def grantEntry (b : Board) (i : Slot) : Board :=
  match b.phase with
  | .reversing => if b.stack.contains ⟨i, .off⟩ then pushEntry b i .undoOn else b
  | .idle | .lowering | .raising | .draining => if listed b.stack i then b else pushEntry b i .on

/-- A grant (R86). -/
def grant (e : Env) (b : Board) (i : Slot) : Board :=
  let w := e.cfg.weight i
  let b1 := (toRamping e b i).updNode i (fun n => { n with charge := w })
  grantEntry { b1 with inUse := b1.inUse + w, pointer := i } i

/-- The arbiter considers a grant (R83). -/
def grantStep (e : Env) (b : Board) : Option Board :=
  match b.queue e.cfg with
  | [] => none
  | i :: _ => if mayGrant e b i then some (grant e b i) else none

/-! ### Blocking of PENDING on members (R17) -/

/-- A slot is a PENDING on member. -/
def pendingOn (b : Board) (i : Slot) : Bool := (b.node i).member == some true && b.stateOf i == .pending false

/-- A prerequisite that blocks: FAULTED, or OFF and no on member (R17); `blocked` are slots already to be blocked. -/
def prereqBlocks (b : Board) (blocked : List Slot) (p : Slot) : Bool :=
  (b.stateOf p).isFaulted || (b.stateOf p == .off && (b.node p).member != some true) || blocked.contains p

/-- One round of the blocking that runs down the graph (R17). -/
def blockRound (cfg : WorkingConfig) (b : Board) (blocked : List Slot) : List Slot :=
  slots.filter (fun i => pendingOn b i && (cfg.prereqs i).any (prereqBlocks b blocked))

/-- The PENDING on members to be blocked (R17). -/
def toBlock (cfg : WorkingConfig) (b : Board) : List Slot := Nat.iterate (blockRound cfg b) 20 []

/-- R17; the faults of one event follow in slot order (R148). Once one of them is a critical loss that begins an
unwind, the members not yet blocked return to OFF with it instead (R134): which of several stood ahead of the critical
one is left open, and slot order is the model's choice (entry 38). -/
def blockStep (e : Env) (b : Board) : Option Board :=
  match toBlock e.cfg b with
  | [] => none
  | i :: _ => some (takeFault e b i .blocked false)

/-- R17 in LOWERING, where the test is made only when a node becomes FAULTED (entry 39). -/
def blockTestStep (e : Env) (b : Board) : Option Board :=
  if b.blockTest then
    match blockStep e b with
    | some t => some t
    | none => some { b with blockTest := false }
  else none

/-! ### LOWERING (R11 to R15) -/

/-- The level-blocked nodes that are OFF take fault BLOCKED in slot order (R11). Once one of them has begun an unwind
or an emergency off, the rest of the event's faults have no consequence of their own (R149). Their notices carry the
phase and the transition kind as the first consequence has left them; R148 leaves that open (entry 20). -/
def blockLevels (e : Env) (b : Board) (l : List Slot) : Board :=
  l.foldl (fun b i => if b.phase = .lowering then takeFault e b i .blocked false else reportFault e b i .blocked .none) b

/-- The level-blocked nodes that are OFF. -/
def levelBlockedOff (b : Board) : List Slot :=
  slots.filter (fun i => (b.node i).levelBlocked && b.stateOf i == .off)

/-- R11. -/
def levelStep (e : Env) (b : Board) : Option Board :=
  match levelBlockedOff b with
  | [] => none
  | l => some (blockLevels e b l)

/-- An on member that has reached OFF takes PENDING (R12). -/
def rejoinStep (e : Env) (b : Board) : Option Board :=
  match slots.filter (fun i => (b.node i).member == some true && b.stateOf i == .off) with
  | [] => none
  | i :: _ => some (enter e.cfg b i (.pending false) none)

/-- An off member is eligible (R13). -/
def offEligible (e : Env) (b : Board) (i : Slot) : Bool :=
  (b.node i).member == some false && b.stateOf i == .pending true && b.dependentsDown e.cfg i

/-- The end of lowering (R15). A node that is no member and still falls from an earlier cascade holds LOWERING open,
but not when the change set was empty at the start event: that transition completes at once (R21, entry 33). -/
def loweringOver (b : Board) : Bool :=
  b.emptyChange
    || (slots.all (fun i => (b.node i).member != some false || (b.stateOf i).isDown)
      && b.allStates (fun st => !st.isFalling))

/-- LOWERING. -/
def loweringStep (e : Env) (b : Board) : Option Board :=
  purgeStep b <|> levelStep e b <|> rejoinStep e b <|> blockTestStep e b <|> eligibleStep b .off (offEligible e b) <|>
    issueStep e b <|> (if loweringOver b then some { b with phase := .raising } else none)

/-! ### RAISING (R16 to R21) -/

/-- An on member that waits again after a ramp failure rejoins the queue as a retry (R16, R67). -/
def retryStep (e : Env) (b : Board) : Option Board :=
  match slots.filter (fun i => pendingOn b i && listed b.stack i && b.prereqsGood e.cfg i) with
  | [] => none
  | i :: _ => some (enter e.cfg b i .queued none)

/-- An on member is eligible (R16). -/
def onEligible (e : Env) (b : Board) (i : Slot) : Bool :=
  pendingOn b i && !listed b.stack i && b.prereqsGood e.cfg i

/-- A member is resolved, at its target or by fault (R12). -/
def resolved (n : Node) : Bool :=
  match n.member with
  | none => true
  | some true => n.state == .good || n.state.isFaulted
  | some false => n.state.isDown

/-- The completion test (R19), or the completion at the start event of a transition with nothing to change (R21). -/
def raisingOver (e : Env) (b : Board) : Bool :=
  b.emptyChange
    || (slots.all (fun i => resolved (b.node i)
        && !((b.node i).member.isSome && (b.stateOf i).isFaulted && e.cfg.critical i))
      && b.allStates (fun st => !st.isFalling && st != .queued))

/-- A level-blocked node that still falls when its transition completes is to take BLOCKED when it reaches OFF (R11). -/
def Node.blockFalling (n : Node) : Node :=
  if n.levelBlocked && n.state.isFalling then { n with ending := .blocked } else n

/-- The end of RAISING. Only where the change set was empty can a level-blocked node still fall (entry 33). -/
def endRaising (e : Env) (b : Board) : Board :=
  complete e (if b.emptyChange then { b with nodes := b.nodes.map Node.blockFalling } else b)

/-- RAISING. -/
def raisingStep (e : Env) (b : Board) : Option Board :=
  purgeStep b <|> blockStep e b <|> retryStep e b <|> eligibleStep b .on (onEligible e b) <|> issueStep e b <|>
    grantStep e b <|> (if raisingOver e b then some (endRaising e b) else none)

/-! ### REVERSING (R135 to R139) -/

/-- An undo entry whose node is at rest is removed (R137). -/
def undoneStep (b : Board) : Option Board :=
  match b.stack with
  | ⟨i, .undoOn⟩ :: rest | ⟨i, .undoOff⟩ :: rest =>
    if (b.stateOf i).atRest then some { b with stack := rest } else none
  | _ => none

/-- The top forward entry is settled on a board at rest (R136). -/
def settleTop (e : Env) (b : Board) (a : Action) (rest : List Action) : Option Board :=
  match a.act, b.stateOf a.slot with
  | .on, .faulted _ | .off, .faulted _ => some { b with stack := rest }
  | .on, .off => some { b with stack := rest }
  | .off, .good => some { b with stack := rest }
  | .on, .good =>
    if b.dependentsDown e.cfg a.slot then
      some (enlist (enter e.cfg b a.slot (.pending true) none) .undoOff [a.slot])
    else none
  | .off, .off =>
    if b.prereqsGood e.cfg a.slot then
      some (enlist (enter e.cfg b a.slot (.pending false) none) .undoOn [a.slot])
    else some (takeFault e { b with stack := rest } a.slot .blocked false)
  | _, _ => none

/-- The next entry is taken only while every node is at rest (R135). -/
def undoStep (e : Env) (b : Board) : Option Board :=
  if b.allStates NodeState.atRest then
    match b.stack with
    | [] => none
    | a :: rest => settleTop e b a rest
  else none

/-- REVERSING ends when the stack is empty and every node is at rest (R139). -/
def reversingOver (b : Board) : Bool := b.stack.isEmpty && b.allStates NodeState.atRest

/-- REVERSING. -/
def reversingStep (e : Env) (b : Board) : Option Board :=
  purgeStep b <|> undoneStep b <|> undoStep e b <|> issueStep e b <|> grantStep e b <|>
    (if reversingOver b then some (endReversing e b) else none)

/-! ### One event -/

/-- The first change the phase calls for. -/
def engineStep (e : Env) (b : Board) : Option Board :=
  match b.phase with
  | .idle => idleStep e b
  | .lowering => loweringStep e b
  | .raising => raisingStep e b
  | .reversing => reversingStep e b
  | .draining => if b.allStates NodeState.isDown then some (endEmergency e b) else none

/-- Changes until none is called for, at most `fuel` of them. -/
def settleFor (e : Env) : Nat → Board → Board
  | 0, b => b
  | fuel + 1, b =>
    match engineStep e b with
    | none => b
    | some b1 => settleFor e fuel b1

/-- More changes than one event can make: each transition inside it makes at most some 200, and the resume failure
counter bounds how many there are. -/
def settleFuel : Nat := 4096

/-- Every change that follows inside the event (R57). -/
def settleBoard (e : Env) (b : Board) : Board := settleFor e settleFuel b

end Sys2Proof.Machine
end

