-- ==== Sys2Proof/Machine/EnterChecks.lean ====
section
/-! DEFINITION. ENTER as the engine sees it before it takes one: the kind it would start and the checks of R5. -/

namespace Sys2Proof.Machine

/-- The kind of a transition an ENTER starts (R6). -/
def enterKind (source target : Platform) : Kind :=
  if source = target then .relevel
  else
    match source with
    | .working => if target = .doze then .dozeIn else .down
    | .doze | .hibernate | .off => .drop

/-- The checks of R5 in their order; the target when all pass. -/
def enterCheck (s : State) (target : Byte) (dwell : Half) : Except Status Platform :=
  if s.board.phase ≠ .idle || s.isSaving then .error .busy
  else
    match platformOf target with
    | none => .error .range
    | some p =>
      if s.store.unconfigured then .error .state
      else if !s.inputs.acokHigh then .error .state
      else if p.rank < s.board.platform.rank then .error .state
      else if dwell ≠ 0 ∧ enterKind s.board.platform p ≠ .dozeIn then .error .range
      else .ok p

/-- The command at the front of a queue is an ENTER that a state would accept. -/
def State.acceptsEnter (s : State) : Option Instr → Bool
  | some (.enter target dwell) =>
    s.isUp && s.link.reply.isNone && (match enterCheck s target dwell with
      | .ok _ => true
      | .error _ => false)
  | _ => false

end Sys2Proof.Machine
end

