-- ==== Sys2Proof/Machine/Indicator.lean ====
section
/-! DEFINITION. The front panel's indicator (Section 10.4). -/

namespace Sys2Proof.Machine

/-- The segments of a pattern, each lit or dark with its time in ms; none for a steady pattern (R185). -/
def Pattern.segments : Pattern → List (Bool × Nat)
  | .steadyOn => []
  | .steadyOff => []
  | .slow => [(true, 1000), (false, 1000)]
  | .fast => [(true, 125), (false, 125)]
  | .code2 => [(true, 200), (false, 200), (true, 200), (false, 1800)]
  | .code3 => [(true, 200), (false, 200), (true, 200), (false, 200), (true, 200), (false, 1800)]
  | .code4 =>
    [(true, 200), (false, 200), (true, 200), (false, 200), (true, 200), (false, 200), (true, 200), (false, 1800)]

/-- The segment of a pattern that starts at a time; absent for a steady pattern. -/
def segmentAt (p : Pattern) (index now : Nat) : Option Segment :=
  match p.segments[index]? with
  | none => none
  | some seg => some ⟨index, now + seg.2⟩

/-- A pattern starts with its first segment (R185). -/
def Panel.startPattern (p : Panel) (pat : Pattern) (now : Nat) : Panel :=
  { p with pattern := pat, segment := segmentAt pat 0 now, next := none }

/-- The LED is lit (R185). -/
def Panel.lit (p : Panel) : Bool :=
  match p.pattern with
  | .steadyOn => true
  | .steadyOff => false
  | .slow | .fast | .code2 | .code3 | .code4 =>
    match p.segment with
    | none => false
    | some seg => ((p.pattern.segments[seg.index]?).map Prod.fst).getD false

/-- The wanted pattern (R186). -/
def wantedPattern (unconfigured : Bool) (b : Board) : Pattern :=
  if unconfigured then .code4
  else
    match b.phase with
    | .lowering | .raising | .reversing | .draining => .fast
    | .idle =>
      match b.lockout with
      | .resume => .code2
      | .thermal => .code3
      | .none =>
        match b.platform with
        | .working => .steadyOn
        | .doze => .slow
        | .hibernate | .off => .steadyOff

/-- The indicator meets its wanted pattern at the end of an event (R187). -/
def Panel.want (p : Panel) (pat : Pattern) (now : Nat) : Panel :=
  if pat = p.pattern then { p with next := none }
  else if p.pattern.segments.isEmpty then p.startPattern pat now
  else { p with next := some pat }

/-- The running segment ends (R187). -/
def Panel.segmentEnds (p : Panel) (now : Nat) : Panel :=
  match p.next with
  | some pat => p.startPattern pat now
  | none =>
    match p.segment with
    | none => p
    | some seg => { p with segment := segmentAt p.pattern ((seg.index + 1) % p.pattern.segments.length) now }

end Sys2Proof.Machine
end

