-- ==== Sys2Proof/Machine/Monitor.lean ====
section
/-! DEFINITION. The rail monitor: millivolts, thresholds, classes, counters, the results it delivers to the node switch
(Chapter 5), what the switch does with each (Chapter 3), and the round mode. -/

namespace Sys2Proof.Machine

/-! ### Millivolts and thresholds (R96, R97) -/

/-- The millivolts of a code (R96). -/
def millivolts (code scale : Nat) : Nat := code * scale / 1000

/-- The last sample as held: 65535 for a larger value (R96). -/
def heldSample (mv : Nat) : Nat := min 65535 mv

/-- A sample is saturated at code 1023 (R96). -/
def isSaturated (code : Nat) : Bool := code == 1023

/-- The full-scale value of a channel (R96). -/
def fullScale (scale : Nat) : Nat := millivolts 1023 scale

/-- R97, good-low. -/
def Window.goodLow (w : Window) : Nat := w.nominal - w.nominal * w.underTol / 1000

/-- R97, good-high. -/
def Window.goodHigh (w : Window) : Nat := w.nominal + w.nominal * w.overTol / 1000

/-- R97, hold-low; 0 when the difference would be negative. -/
def Window.holdLow (w : Window) : Nat := w.goodLow - w.hysteresis

/-- R97, hold-high. -/
def Window.holdHigh (w : Window) : Nat := w.goodHigh + w.hysteresis

/-- R97, discharged. -/
def Window.discharged (w : Window) : Nat := w.nominal * w.threshold / 1000

/-! ### Classes (R98 to R100) -/

/-- The class of an analog sample against the state of its node; none in a state that is not read (R93). A node PENDING
with its output on for an undo-off is read like a PENDING off member, which the spec leaves open (entry 35). -/
def classify (w : Window) (st : NodeState) (code : Nat) : Option SampleClass :=
  let mv := millivolts code w.scale
  let sat := isSaturated code
  match st with
  | .ramping =>
    some (if sat || decide (w.goodHigh < mv) then .overBand else if mv < w.goodLow then .underBand else .inBand)
  | .settling | .good | .pending true =>
    some (if sat || decide (w.holdHigh < mv) then .badHigh else if mv < w.holdLow then .badLow else .ok)
  | .discharging => some (if !sat && decide (mv ≤ w.discharged) then .discharged else .notDischarged)
  | .off | .pending false | .queued | .stopping | .faulted _ => none

/-! ### Counters and results (R102, R103) -/

/-- What a sample does to the counters; `nothing` for a sample read and discarded. -/
inductive Tick where
  | up
  | high
  | neither
  | fine
  | bad (isHigh : Bool)
  | down
  | notDown
  | nothing
  deriving DecidableEq, Repr

/-- The row of R102 of an analog class. -/
def tickOfClass : SampleClass → Tick
  | .inBand => .up
  | .overBand => .high
  | .underBand => .neither
  | .ok => .fine
  | .badLow => .bad false
  | .badHigh => .bad true
  | .discharged => .down
  | .notDischarged => .notDown
  | .none => .nothing

/-- The row of R102 of a power-good sample (R101); a digital rail in DISCHARGING is read and discarded. PENDING with
the output on counts for an undo-off as for an off action (entry 35). -/
def tickOfGoodInput (st : NodeState) (good : Bool) : Tick :=
  match st with
  | .ramping => if good then .up else .neither
  | .settling | .good | .pending true => if good then .fine else .bad false
  | .off | .pending false | .queued | .stopping | .discharging | .faulted _ => .nothing

/-- The row of R102 of an acknowledge sample (R101); in STOPPING it is read while the forced mark is clear. -/
def tickOfAck (st : NodeState) (forced ackOn : Bool) : Tick :=
  match st with
  | .ramping => if ackOn then .up else .neither
  | .stopping => if forced then .nothing else if ackOn then .notDown else .down
  | .off | .pending _ | .queued | .settling | .good | .discharging | .faulted _ => .nothing

/-- A counter one higher, within 0..15 (R102). -/
def bump (n : Nat) : Nat := min 15 (n + 1)

/-- The counters after a sample (R102). -/
def Node.count (n : Node) : Tick → Node
  | .up => { n with inCount := bump n.inCount, overCount := 0 }
  | .high => { n with inCount := 0, overCount := bump n.overCount }
  | .neither => { n with inCount := 0, overCount := 0 }
  | .fine => { n with badCount := 0 }
  | .bad _ => { n with badCount := bump n.badCount }
  | .down => { n with offCount := bump n.offCount }
  | .notDown => { n with offCount := 0 }
  | .nothing => n

/-- The results the monitor delivers (R58). -/
inductive Result where
  | onProof
  | overVolt
  | disqualified (isHigh : Bool)
  | offProof
  deriving DecidableEq, Repr

/-- The result of a sample: the counter it touched has reached its limit (R103). -/
def resultOf (nGood nBad : Nat) (n : Node) : Tick → Option Result
  | .up => if nGood ≤ n.inCount then some .onProof else none
  | .high => if nBad ≤ n.overCount then some .overVolt else none
  | .bad h => if nBad ≤ n.badCount then some (.disqualified h) else none
  | .down => if nGood ≤ n.offCount then some .offProof else none
  | .neither | .fine | .notDown | .nothing => none

/-! ### What the switch does with a result (R58 to R72) -/

/-- The node states a result belongs to; elsewhere it changes nothing (R58). A node PENDING with its output on for an
undo-off that is disqualified is lost like a PENDING off member (entry 35). -/
def deliver (e : Env) (b : Board) (i : Slot) (r : Result) : Board :=
  match r, b.stateOf i with
  | .onProof, .ramping => toSettling e b i
  | .overVolt, .ramping => takeFault e b i .overvolt false
  | .disqualified _, .settling => rampFailure e b i
  | .disqualified h, .good | .disqualified h, .pending true => takeFault e b i (if h then .overvolt else .dropout) true
  | .offProof, .discharging => if (b.node i).unobserved then b else takeEnding e b i
  | .offProof, .stopping => if (b.node i).forced then b else takeEnding e b i
  | _, _ => b

/-! ### Deadlines (R59 to R72) -/

/-- A deadline of a kind is running for a slot and has expired. -/
def deadlineDue (now : Nat) (b : Board) (i : Slot) (k : DeadlineKind) : Bool :=
  match (b.node i).deadline with
  | none => false
  | some d => d.kind == k && decide (d.expiry ≤ now)

/-- The expiry of the ramp deadline in RAMPING: the end of a timed ramp, a ramp failure, or a missed acknowledge
(R59, R64, R65, R71). -/
def rampExpires (e : Env) (b : Board) (i : Slot) : Board :=
  match e.cfg.node i with
  | none => b
  | some r =>
    match r.body with
    | .rail .timed _ _ _ => toSettling e b i
    | .rail (.analog ..) _ _ _ | .rail (.digital ..) _ _ _ => rampFailure e b i
    | .handshake .. => takeFault e b i .handshake false
    | .signal => b

/-- The expiry of the settle time (R60, R64, R65, R70, R71). -/
def settleExpires (e : Env) (b : Board) (i : Slot) : Board := enter e.cfg b i .good none

/-- The expiry of the discharge deadline: a missed observed discharge or acknowledge-off is a fault, every other
expiry ends the discharge or off hold (R62 to R65, R70, R72, R73). -/
def dischargeExpires (e : Env) (b : Board) (i : Slot) : Board :=
  match e.cfg.node i with
  | none => b
  | some r =>
    match r.body with
    | .rail (.analog ..) _ _ _ => if (b.node i).unobserved then takeEnding e b i else takeFault e b i .discharge false
    | .rail (.digital ..) _ _ _ | .rail .timed _ _ _ => takeEnding e b i
    | .handshake .. => if (b.node i).forced then takeEnding e b i else takeFault e b i .handshake false
    | .signal => takeEnding e b i

/-! ### The round mode (R91, R92, R94, R95) -/

/-- The mode that platform state and phase call for (R91). -/
def modeFor (b : Board) : RoundMode :=
  if b.platform = .working ∨ b.phase ≠ .idle then .continuous else .sleep

/-- The converter and the first round when the mode becomes CONTINUOUS (R92). A start at the very time of a sleep
round's pass finds the converter READY (R95). R95 says so of a transition start; that an emergency off taken at that time,
after the pass, finds it so too is the model's choice (entry 42). -/
def startContinuous (m : Monitor) (now : Nat) : Monitor :=
  match m.converter with
  | .ready => ⟨.continuous, .ready, some (now + 1), none⟩
  | .stabilizing t => ⟨.continuous, .stabilizing t, some t, none⟩
  | .unpowered =>
    if m.passAt = some now then ⟨.continuous, .ready, some (now + 1), none⟩
    else ⟨.continuous, .stabilizing (now + 2), some (now + 2), none⟩

/-- The monitor when the mode becomes SLEEP (R91). -/
def startSleep (now interval : Nat) : Monitor := ⟨.sleep, .unpowered, some (now + interval), none⟩

/-- The monitor takes its mode at the end of an event (R91). -/
def takeMode (m : Monitor) (b : Board) (now interval : Nat) : Monitor :=
  match modeFor b, m.mode with
  | .continuous, .sleep => startContinuous m now
  | .sleep, .continuous => startSleep now interval
  | .continuous, .continuous | .sleep, .sleep => m

/-- The unobserved mark of a RAIL node that entered DISCHARGING in an event at whose end the mode is SLEEP (R100). -/
def markUnobserved (before after : Board) (i : Slot) (n : Node) : Node :=
  if n.state = .discharging ∧ before.stateOf i ≠ .discharging then { n with unobserved := after.phase == .idle
    && after.platform.isSleeping } else n

/-- The marks of every slot at the end of an event (R100). -/
def markDischarges (before after : Board) : Board :=
  { after with nodes := Vector.ofFn (fun i => markUnobserved before after i (after.node i)) }

end Sys2Proof.Machine
end

