-- ==== Sys2Proof/Machine/Event.lean ====
section
/-! DEFINITION. The end of an event: the board settles, unless an ENTER comes first; level lines that have become armed
arrive again, the monitor takes its mode, the indicator its pattern and ATTN_N its level. -/

namespace Sys2Proof.Machine

/-- The eight wake lines in order. -/
def wakeLines : List WakeLine := [0, 1, 2, 3, 4, 5, 6, 7]

/-- The source id of a wake line (R108). -/
def lineId (l : WakeLine) : SourceId := ⟨l.val, Nat.lt_trans l.isLt (by decide)⟩

/-- The qualifier of a wake line. -/
def State.qual (s : State) (l : WakeLine) : Qualifier := s.quals.get l

/-- The mode is LEVEL_HIGH or LEVEL_LOW. -/
def WakeMode.isLevel : WakeMode → Bool
  | .levelHigh | .levelLow => true
  | .rising | .falling => false

/-- The active level of a line (R111). -/
def WakeMode.activeLevel : WakeMode → Level
  | .levelHigh | .rising => .high
  | .levelLow | .falling => .low

/-! ### Level lines that arrive again (R117) -/

/-- A level line stands ACTIVE. -/
def State.isHeldLine (s : State) (l : WakeLine) : Bool :=
  (s.cfg.line l).mode.isLevel && (s.qual l).state == .active

/-- The lines still to arrive again: ACTIVE in a level mode, armed now and not just before the event. -/
def rearmCandidates (s0 s : State) (b : Board) (done : List SourceId) : List SourceId :=
  (wakeLines.filter (fun l => s.isHeldLine l && !done.contains (lineId l) && armed s.env b (lineId l)
    && !armed s0.env s0.board (lineId l))).map lineId

/-- One of several that the manual leaves in any order: a free value where there is a choice. -/
def chooseFrom {α : Type} (free turn : Nat) (first : α) (rest : List α) : α :=
  match rest with
  | [] => first
  | _ :: _ => (first :: rest).getD (Config.freePick free turn % (rest.length + 1)) first

/-- The candidates arrive one after another, each at most once in the event, the engine following each as `settle`. -/
def rearm (s0 s : State) (settle : Board → Board) : Nat → List SourceId → Board → Board
  | 0, _, b => b
  | n + 1, done, b =>
    match rearmCandidates s0 s b done with
    | [] => b
    | id :: l =>
      let pick := chooseFrom s.free n id l
      rearm s0 s settle n (pick :: done) (settle (arrive s.env b pick))

/-! ### The order of notices of different blocks (R195) -/

/-- The block that posts a kind (Table 11-3). -/
def NoticeKind.block : NoticeKind → Nat
  | .done | .held => 0
  | .fault | .acfail => 1
  | .button => 2
  | .warn => 3
  | .store => 4

/-- The block that posted an entry. -/
def NoticeEntry.block (x : NoticeEntry) : Nat := x.notice.kind.block

/-- New entries in an order that keeps each block's own. -/
def interleave (free : Nat) : Nat → List NoticeEntry → List NoticeEntry
  | 0, l => l
  | n + 1, l =>
    match (l.map NoticeEntry.block).dedup with
    | [] => l
    | [_] => l
    | first :: rest =>
      let pick := chooseFrom free (n + 8) first rest
      match l.find? (fun x => x.block = pick) with
      | none => l
      | some x => x :: interleave free n (l.erase x)

/-- The queue after an event that found `old` entries in it. -/
def orderNotices (free old : Nat) (q : List NoticeEntry) : List NoticeEntry :=
  q.take old ++ interleave free 8 (q.drop old)

/-! ### ATTN_N (R196) -/

/-- The level of ATTN_N that reply slot and notice queue call for. -/
def State.attn (s : State) : State :=
  { s with link := { s.link with attnLow := s.link.reply.isSome || !s.board.notices.isEmpty } }

/-! ### The end of an event -/

/-- An ENTER reaches the IDLE engine together with a claim this event raises, and is taken first (R7): the event leaves
the engine IDLE, with no follow-on, lockout or recovery of its own to come, and the ENTER that waits directly behind it
would be accepted. Which of the two is first is a free value (entry 37). -/
def enterFirst (s0 s : State) : Bool :=
  s.acceptsEnter s.pending.head?
    && s0.board.phase == .idle && s.board.followOn.isNone && !recoveryHolds s.board
    && !(s.board.platform == .off && s.board.counter == 3 && s.board.lockout == .none)
    && Config.freePick s.free 16 % 2 == 1

/-- What the engine does in an event: every change that follows, or none where an ENTER comes first (R7). -/
def settleEvent (s0 s : State) (b : Board) : Board := if enterFirst s0 s then b else settleBoard s.env b

/-- The board at the end of an event. The engine and the arbiter come first, grants among their changes, and then the
level lines arrive again: R83 puts a grant after the event's changes and R117 a re-arrival after them, and which of the
two comes first is the model's choice (entry 36). -/
def finishBoard (s0 s : State) : Board :=
  let settle := settleEvent s0 s
  let b := markDischarges s0.board (rearm s0 s settle 8 [] (settle s.board))
  { b with notices := orderNotices s.free s0.board.notices.length b.notices, listedNow := [] }

/-- Everything else takes its place from the board. -/
def finishWith (s : State) (b : Board) : State :=
  let panel := s.panel.want (wantedPattern s.store.unconfigured b) s.now
  State.attn { s with
    free := s.free + 1
    board := b
    monitor := takeMode s.monitor b s.now s.cfg.settings.sleepInterval
    panel := panel
    ledOn := panel.lit }

/-- The end of an event that began in `s0` and has changed the state to `s`. -/
def finish (s0 s : State) : State := finishWith s (finishBoard s0 s)

end Sys2Proof.Machine
end

