-- ==== Sys2Proof/Machine/NodeTable.lean ====
section
/-! DEFINITION. The node table's own operations: the checks, clamps and effects of NODE_PUT (Section 2.5). -/

namespace Sys2Proof.Machine

/-- The nearer end of a range for a value outside it. -/
def clamp (lo hi n : Nat) : Nat := max lo (min hi n)

/-- R46 on a window: each value into its range, then the nominal to full scale, then the hysteresis to good-low. -/
def clampWindow (w : Window) : Window :=
  let scale := clamp 1 65535 w.scale
  let nominal := min (clamp 1 65535 w.nominal) (fullScale scale)
  let w1 : Window :=
    ⟨nominal, scale, clamp 1 250 w.underTol, clamp 1 250 w.overTol, clamp 0 500 w.hysteresis, clamp 0 500 w.threshold⟩
  { w1 with hysteresis := min w1.hysteresis w1.goodLow }

/-- R46 on a good source. -/
def clampSource : GoodSource → GoodSource
  | .analog c w g b => .analog c (clampWindow w) (clamp 1 15 g) (clamp 1 15 b)
  | .digital i p g b => .digital i p (clamp 1 15 g) (clamp 1 15 b)
  | .timed => .timed

/-- R46 on the part of a record only its kind holds. -/
def clampBody : NodeBody → NodeBody
  | .rail g p w n => .rail (clampSource g) (clamp 0 15 p) (clamp 0 255 w) (clamp 0 3 n)
  | .signal => .signal
  | .handshake a p g => .handshake a p (clamp 1 15 g)

/-- R46. -/
def clampNode (r : NodeRecord) : NodeRecord :=
  { r with
    ramp := clamp 1 1000 r.ramp
    settle := clamp 0 1000 r.settle
    discharge := clamp 1 2000 r.discharge
    body := clampBody r.body }

/-! ### Bindings (R31, R43) -/

/-- The analog channel a node binds. -/
def NodeBody.channel : NodeBody → Option (Fin 12)
  | .rail (.analog c _ _ _) _ _ _ => some c
  | .rail (.digital ..) _ _ _ | .rail .timed _ _ _ | .signal | .handshake .. => none

/-- The digital input a node binds. -/
def NodeBody.input : NodeBody → Option (Fin 12)
  | .rail (.digital i _ _ _) _ _ _ => some i
  | .handshake a _ _ => some a
  | .rail (.analog ..) _ _ _ | .rail .timed _ _ _ | .signal => none

/-- Two nodes bind a line in common (R43). -/
def bindClash (r q : NodeRecord) : Bool :=
  r.output == q.output || (r.body.channel.isSome && r.body.channel == q.body.channel)
    || (r.body.input.isSome && r.body.input == q.body.input)

/-- A record clashes with a node in another slot (R43). -/
def clashes (cfg : WorkingConfig) (i : Slot) (r : NodeRecord) : Bool :=
  slots.any (fun j => j != i && (match cfg.node j with
    | none => false
    | some q => bindClash r q))

/-! ### Structural change (R45) -/

/-- A body without its tuning fields. -/
def NodeBody.shape : NodeBody → NodeBody
  | .rail (.analog c _ _ _) _ _ _ => .rail (.analog c ⟨0, 0, 0, 0, 0, 0⟩ 0 0) 0 0 0
  | .rail (.digital i p _ _) _ _ _ => .rail (.digital i p 0 0) 0 0 0
  | .rail .timed _ _ _ => .rail .timed 0 0 0
  | .signal => .signal
  | .handshake a p _ => .handshake a p 0

/-- Two prerequisite lists are the same set. -/
def sameSet (l m : List Slot) : Bool := l.all m.contains && m.all l.contains

/-- Two records differ in a structural field (R45). -/
def structuralChange : Option NodeRecord → Option NodeRecord → Bool
  | none, none => false
  | none, some _ | some _, none => true
  | some r, some q =>
    !(r.output == q.output && r.polarity == q.polarity && r.body.shape == q.body.shape && r.levels == q.levels
      && sameSet r.prereqs q.prereqs && r.irreversible == q.irreversible)

/-! ### The checks of R41 -/

/-- The table with a record put in a slot. -/
def WorkingConfig.putNode (cfg : WorkingConfig) (i : Slot) (rec : Option NodeRecord) : WorkingConfig :=
  { cfg with nodes := cfg.nodes.set i.val rec i.isLt }

/-- Check 3: a prerequisite names the node itself or a NONE slot (R43). -/
def badRef (cfg : WorkingConfig) (i : Slot) (r : NodeRecord) : Bool :=
  r.prereqs.any (fun p => p == i || (cfg.node p).isNone)

/-- Check 5: the graph would contain a cycle, which then runs through the slot (R44). -/
def makesCycle (cfg : WorkingConfig) (i : Slot) (r : NodeRecord) : Bool :=
  ((cfg.putNode i (some r)).below i).contains i

/-- Check 6: another node lists the slot (R44). -/
def isListed (cfg : WorkingConfig) (i : Slot) : Bool := (cfg.dependents i).any (· != i)

/-- Checks 3 to 7 of R41 on a record for a slot; none when it passes. -/
def putRefusal (cfg : WorkingConfig) (b : Board) (i : Slot) (rec : Option NodeRecord) : Option Status :=
  if rec.any (badRef cfg i) then some .ref
  else if rec.any (clashes cfg i) then some .clash
  else if rec.any (makesCycle cfg i) then some .cycle
  else if rec.isNone && isListed cfg i then some .inUse
  else if structuralChange (cfg.node i) rec && !(b.stateOf i).isDown then some .live
  else none

/-! ### Effects of an accepted put (R31, R47) -/

/-- A line the slot no longer binds is released. -/
def releaseLine (old new : Option NodeRecord) (outs : Vector Drive 16) : Vector Drive 16 :=
  match old with
  | none => outs
  | some r => if new.any (fun q => q.output == r.output) then outs else outs.set r.output.val .released r.output.isLt

/-- A line newly bound or re-polarized is driven to the node's off level. -/
def bindLine (old new : Option NodeRecord) (outs : Vector Drive 16) : Vector Drive 16 :=
  match new with
  | none => outs
  | some q =>
    if old.any (fun r => r.output == q.output && r.polarity == q.polarity) then outs
    else outs.set q.output.val (.driven (q.outLevel false)) q.output.isLt

/-- The last sample, class and flag made absent when the analog source changes (R105). -/
def Node.forgetSample (n : Node) (old new : Option NodeRecord) : Node :=
  if old.bind (fun r => r.body.channel) = new.bind (fun r => r.body.channel) then n
  else { n with lastSample := none, lastClass := .none, saturated := false }

/-- The counters set to 0 by a tuning put to a node in RAMPING, SETTLING, GOOD or DISCHARGING (R47). -/
def Node.restartCounters (n : Node) : Node :=
  match n.state with
  | .ramping | .settling | .good | .discharging => { n with inCount := 0, overCount := 0, badCount := 0, offCount := 0 }
  | .off | .pending _ | .queued | .stopping | .faulted _ => n

/-- The node state after a put: OFF for kind NONE and for a structural put to a FAULTED node (R47). -/
def Node.stateAfterPut (n : Node) (old new : Option NodeRecord) : Node :=
  if new.isNone || (n.state.isFaulted && structuralChange old new) then n.withState .off none else n

/-- The retries value of a record; 0 where none is held. -/
def retriesOf : Option NodeRecord → Nat
  | none => 0
  | some r => r.body.retries

/-- The live half of a slot after an accepted put. -/
def Node.afterPut (n : Node) (old new : Option NodeRecord) : Node :=
  { ((n.restartCounters.stateAfterPut old new).forgetSample old new) with retriesLeft := retriesOf new }

/-- The board after an accepted put. -/
def boardAfterPut (b : Board) (i : Slot) (old new : Option NodeRecord) : Board :=
  let b1 := b.updNode i (fun n => n.afterPut old new)
  { b1 with outs := bindLine old new (releaseLine old new b1.outs) }

end Sys2Proof.Machine
end

