-- ==== Sys2Proof/Machine/Rounds.lean ====
section
/-! DEFINITION. The sample rounds of the rail monitor (R93, R94): continuous rounds, and the begin and the pass of a
sleep round. Each sample that completes a run is an event of its own. -/

namespace Sys2Proof.Machine

/-- The twelve channels or inputs in ascending order. -/
def twelve : List (Fin 12) := [0, 1, 2, 3, 4, 5, 6, 7, 8, 9, 10, 11]

/-! ### One sample -/

/-- The limits of a node's counts (R103); a kind without one has a limit it cannot reach. -/
def NodeBody.limits : NodeBody → Nat × Nat
  | .rail (.analog _ _ g b) _ _ _ => (g, b)
  | .rail (.digital _ _ g b) _ _ _ => (g, b)
  | .handshake _ _ g => (g, 16)
  | .rail .timed _ _ _ | .signal => (16, 16)

/-- A slot after a sample is counted: its counters, and the result its limits give. -/
def countSample (b : Board) (i : Slot) (r : NodeRecord) (t : Tick) : Board × Option Result :=
  let n := (b.node i).count t
  (b.setNode i n, resultOf r.body.limits.1 r.body.limits.2 n t)

/-- A sample's result is delivered at an event of its own; without one the board alone changes. -/
def State.takeSample (s : State) (i : Slot) (c : Board × Option Result) : State :=
  match c.2 with
  | none => { s with board := c.1 }
  | some r => finish s { s with board := deliver s.env c.1 i r }

/-- The analog sample as held in the live half (R96, R105). -/
def Node.hold (n : Node) (w : Window) (code : Nat) (c : SampleClass) : Node :=
  { n with lastSample := some (heldSample (millivolts code w.scale)), lastClass := c, saturated := isSaturated code }

/-- An analog sample of a slot: held, and counted unless its discharge is unobserved (R100). -/
def State.sampleAnalog (s : State) (i : Slot) (r : NodeRecord) (w : Window) (code : Nat) : State :=
  let st := s.board.stateOf i
  match classify w st code with
  | none => s
  | some c =>
    let b := s.board.updNode i (fun n => n.hold w code c)
    let counted := !(st == .discharging && (s.board.node i).unobserved)
    s.takeSample i (countSample b i r (if counted then tickOfClass c else .nothing))

/-- A digital sample of a slot: a power-good input or an acknowledge line (R101). -/
def State.sampleDigital (s : State) (i : Slot) (r : NodeRecord) (level : Level) : State :=
  let n := s.board.node i
  match r.body with
  | .rail (.digital _ p _ _) _ _ _ => s.takeSample i (countSample s.board i r (tickOfGoodInput n.state (level == p)))
  | .handshake _ p _ => s.takeSample i (countSample s.board i r (tickOfAck n.state n.forced (level == p)))
  | .rail (.analog ..) _ _ _ | .rail .timed _ _ _ | .signal => s

/-! ### A pass -/

/-- A node is read in a round of this mode: sleep rounds read GOOD rails alone (R94). -/
def readIn (m : RoundMode) (n : Node) (r : NodeRecord) : Bool :=
  match m with
  | .continuous => true
  | .sleep => n.state == .good && r.body.isRail

/-- The node that binds a channel (R33). -/
def boundTo (cfg : WorkingConfig) (p : NodeRecord → Bool) : Option (Slot × NodeRecord) :=
  slots.findSome? (fun i => match cfg.node i with
    | none => none
    | some r => if p r then some (i, r) else none)

/-- A channel's turn in the pass. -/
def State.readChannel (s : State) (m : RoundMode) (readings : Readings) (c : Fin 12) : State :=
  match boundTo s.cfg (fun r => r.body.channel == some c) with
  | none => s
  | some (i, r) =>
    if readIn m (s.board.node i) r then
      match r.body with
      | .rail (.analog _ w _ _) _ _ _ => s.sampleAnalog i r w (readings.ain.get c).toNat
      | .rail (.digital ..) _ _ _ | .rail .timed _ _ _ | .signal | .handshake .. => s
    else s

/-- A digital input's turn in the pass. -/
def State.readInput (s : State) (m : RoundMode) (readings : Readings) (c : Fin 12) : State :=
  match boundTo s.cfg (fun r => r.body.input == some c) with
  | none => s
  | some (i, r) => if readIn m (s.board.node i) r then s.sampleDigital i r (readings.inputs.get c) else s

/-- A sample pass of a round of a mode: the channels, then the inputs, each judged at its turn by its node's state
alone (R93). A sample that ends the mode does not end the pass (entry 16). -/
def State.pass (s : State) (m : RoundMode) (readings : Readings) : State :=
  twelve.foldl (fun s c => s.readInput m readings c) (twelve.foldl (fun s c => s.readChannel m readings c) s)

/-! ### The three commands -/

/-- The next round's time has come. -/
def Monitor.isDue (m : Monitor) (now : Nat) : Bool := m.nextRound.any (fun t => decide (t ≤ now))

/-- A continuous round at its time (R93); the next one is set 1 ms after it (R92). -/
def afterContinuousRound (readings : Readings) (s : State) : State :=
  if s.monitor.mode = .continuous ∧ s.monitor.isDue s.now then
    let s1 := { s with monitor := { s.monitor with converter := .ready, nextRound := some (s.now + 1) } }
    s1.pass .continuous readings
  else s

/-- CONTINUOUS_ROUND. -/
def execContinuousRound (readings : Readings) (s : State) : Host.Outcome State Fault Refusal :=
  .next (afterContinuousRound readings s)

/-- The set time of a sleep round: the converter is powered (R94). The item next round holds none from here until the
pass has been taken, when R94 sets it again; what it holds meanwhile is the model's choice (entry 44). -/
def afterSleepRoundBegin (s : State) : State :=
  if s.monitor.mode = .sleep ∧ s.monitor.converter = .unpowered ∧ s.monitor.isDue s.now then
    { s with monitor := { s.monitor with converter := .stabilizing (s.now + 2), nextRound := none } }
  else s

/-- SLEEP_ROUND_BEGIN. -/
def execSleepRoundBegin (s : State) : Host.Outcome State Fault Refusal := .next (afterSleepRoundBegin s)

/-- The monitor after the pass of a sleep round that began 2 ms before `ready`, unless the mode is no longer SLEEP (R94). -/
def Monitor.afterPass (m : Monitor) (now ready interval : Nat) : Monitor :=
  match m.mode with
  | .continuous => m
  | .sleep => ⟨.sleep, .unpowered, some (ready - 2 + interval), some now⟩

/-- The end of the stabilization of a sleep round: the pass is taken (R94). -/
def afterSleepRoundPass (readings : Readings) (s : State) : State :=
  match s.monitor.mode, s.monitor.converter with
  | .sleep, .stabilizing t =>
    if t ≤ s.now then
      let s1 := { s with monitor := { s.monitor with converter := .ready } }
      let s2 := s1.pass .sleep readings
      { s2 with monitor := s2.monitor.afterPass s.now t s.cfg.settings.sleepInterval }
    else s
  | _, _ => s

/-- SLEEP_ROUND_PASS. -/
def execSleepRoundPass (readings : Readings) (s : State) : Host.Outcome State Fault Refusal :=
  .next (afterSleepRoundPass readings s)

end Sys2Proof.Machine
end

