-- ==== Sys2Proof/Machine/Link.lean ====
section
/-! DEFINITION. The message link: acknowledge bits, the reply slot, the choice of a frame and its removal (Chapter 11). -/

namespace Sys2Proof.Machine

/-- The bus address (R189). -/
def busAddress (addrHigh : Bool) : BitVec 7 := if addrHigh then 0x3B else 0x3A

/-- The acknowledge bits of a write that meets an empty reply slot: the address, then each byte (R190). -/
def acksOfWrite (bytes : List Byte) : List Bool :=
  match bytes with
  | [] => [true]
  | [_] => [true, true]
  | _ :: len :: rest =>
    if maxLen < len.toNat then true :: true :: List.replicate (rest.length + 1) false
    else true :: true :: true :: (List.replicate (min rest.length len.toNat) true
      ++ List.replicate (rest.length - len.toNat) false)

/-- The acknowledge bits of a write that meets a full reply slot (R190). -/
def acksWhenFull (bytes : List Byte) : List Bool := true :: List.replicate bytes.length false

/-- What a write transaction finds: nobody on the bus, a full reply slot, or a link ready to take it. -/
inductive WriteCase where
  | silent
  | full
  | ready
  deriving DecidableEq, Repr

/-- R189, R190. -/
def State.writeCase (s : State) : WriteCase :=
  if !s.isUp then .silent else if s.link.reply.isSome then .full else .ready

/-- The acknowledge bits of the last transaction, a write. -/
def State.putAcks (s : State) (acks : List Bool) : State := { s with link := { s.link with acks := acks, sent := [] } }

/-- A write transaction that takes no request: the acknowledge bits alone. -/
def State.refuseWrite (s : State) (bytes : List Byte) : State :=
  s.putAcks (match s.writeCase with
    | .silent => [false]
    | .full => acksWhenFull bytes
    | .ready => acksOfWrite bytes)

/-- Place the reply to a request in the slot (R191, R192). -/
def State.placeReply (s : State) (bytes : List Byte) (type : Nat) (st : Status) (contents : List Byte) : State :=
  { s with link := { s.link with
      reply := some (replyFrame type st contents)
      attnLow := true
      acks := acksOfWrite bytes
      sent := [] } }

/-- What the owner of a request answers: a status with the reply's further contents, the state it leaves, and whether
more follows at the same event once the reply stands. -/
structure Answer where
  status : Status
  contents : List Byte
  state : State
  follows : Bool
  deriving DecidableEq, Repr

/-- A refused request: the status alone, and nothing changes (R191). -/
def Answer.refuse (s : State) (st : Status) : Answer := ⟨st, [], s, false⟩

/-- A request that changes no state. -/
def Answer.tell (s : State) (contents : List Byte) : Answer := ⟨.ok, contents, s, false⟩

/-- A request taken and done, with nothing to follow. -/
def Answer.done (s : State) (st : Status) : Answer := ⟨st, [], s, false⟩

/-- A request taken whose consequences follow at the same event, after its reply (R191). -/
def Answer.starts (s : State) (st : Status) : Answer := ⟨st, [], s, true⟩

/-- The reply is placed, then what the request starts follows. -/
def Answer.place (s0 : State) (bytes : List Byte) (type : Nat) (a : Answer) : State :=
  let s1 := a.state.placeReply bytes type a.status a.contents
  if a.follows then finish s0 s1 else s1

/-- The acknowledge bits of a write whose LEN is above 32: TYPE alone (R190). -/
def acksWhenTooLong (payload : List Byte) : List Bool := true :: true :: List.replicate (payload.length + 1) false

/-- A request is taken, handed to its owner, and its answer placed in the slot (R191). A payload of more than 32 bytes
has a LEN that R190 refuses, and the write is ignored. -/
def State.request (s : State) (type : Nat) (payload : List Byte) (owner : State → Answer) : State :=
  match s.writeCase with
  | .silent | .full => s.refuseWrite (writeFrame type payload)
  | .ready =>
    if maxLen < payload.length then s.putAcks (acksWhenTooLong payload)
    else (owner s).place s (writeFrame type payload) type

/-! ### Reading (R193, R194) -/

/-- The frame a read transaction chooses and where it comes from (R193). -/
def chooseFrame (s : State) : OpenRead :=
  match s.link.reply with
  | some f => ⟨.reply, f⟩
  | none =>
    match s.board.notices with
    | [] => ⟨.empty, emptyFrame⟩
    | x :: _ => ⟨.notice x.notice.kind, noticeFrame x⟩

/-- A copy of an entry has been taken: merges from now on are marked. -/
def clearMerged (k : NoticeKind) (x : NoticeEntry) : NoticeEntry :=
  if x.notice.kind = k then { x with merged := false } else x

/-- The begin of a read transaction (R193). -/
def State.beginRead (s : State) : State :=
  let r := chooseFrame s
  let q := match r.source with
    | .notice k => s.board.notices.map (clearMerged k)
    | .reply | .empty => s.board.notices
  { s with
    board := { s.board with notices := q }
    link := { s.link with read := some r, acks := [true], sent := [] } }

/-- An entry stays in the queue after its kind's frame was clocked out: another kind, or merged meanwhile (R194). -/
def staysAfter (k : NoticeKind) (x : NoticeEntry) : Bool := x.notice.kind != k || x.merged

/-- A frame that was clocked out whole is removed (R194). -/
def State.removeFrame (s : State) (src : FrameSource) : State :=
  match src with
  | .reply => { s with link := { s.link with reply := none } }
  | .notice k => { s with board := { s.board with notices := s.board.notices.filter (staysAfter k) } }
  | .empty => s

/-- The bytes a read sends: the frame, then 0xFF for as long as the host asks (R193). -/
def bytesSent (frame : List Byte) (clocked : Nat) : List Byte :=
  frame.take clocked ++ List.replicate (clocked - frame.length) 0xFF

/-- The end of a read transaction that clocked out a number of bytes (R194). -/
def State.endRead (s : State) (clocked : Nat) : State :=
  match s.link.read with
  | none => s
  | some r =>
    let s1 := if r.frame.length ≤ clocked then s.removeFrame r.source else s
    State.attn { s1 with link := { s1.link with read := none, sent := bytesSent r.frame clocked } }

end Sys2Proof.Machine
end

