-- ==== Sys2Proof/Machine/Store.lean ====
section
/-! DEFINITION. Source records and settings as they are put, and the stored image: its bytes, its CRC, and what a load
takes from it (Chapters 6 and 12). -/

namespace Sys2Proof.Machine

/-! ### Source records (R127) -/

/-- The line record of a payload; none when a code or the armed set lies outside its list. Numbers are as sent. -/
def lineOfPayload (p : SourcePayload) : Option LineRecord :=
  match wakeModeOf p.mode, armedOf p.armed, policyOf p.policy with
  | some m, some a, some q => some ⟨m, p.debounce.toNat, p.edgeCount.toNat, p.window.toNat, a, p.priority.toNat, q⟩
  | _, _, _ => none

/-- BUTTON's record of a payload. -/
def buttonOfPayload (p : SourcePayload) : Option ButtonRecord :=
  (policyOf p.policy).map (fun q => ⟨p.priority.toNat, q⟩)

/-- LINK's record of a payload. -/
def linkOfPayload (p : SourcePayload) : Option LinkRecord :=
  match armedOf p.armed, policyOf p.policy with
  | some a, some q => some ⟨a, p.priority.toNat, q⟩
  | _, _ => none

/-- Check 3 of R127 on a line. -/
def clampLine (r : LineRecord) : LineRecord :=
  { r with
    debounce := clamp 0 255 r.debounce
    edgeCount := clamp 1 15 r.edgeCount
    window := clamp 1 2000 r.window
    priority := clamp 0 7 r.priority }

/-- Check 3 of R127 on BUTTON. -/
def clampButton (r : ButtonRecord) : ButtonRecord := { r with priority := clamp 0 7 r.priority }

/-- Check 3 of R127 on LINK. -/
def clampLink (r : LinkRecord) : LinkRecord := { r with priority := clamp 0 7 r.priority }

/-- The settings of a payload; none when a code lies outside its list (R205). Numbers are as sent. -/
def settingsOfPayload (p : SettingsPayload) : Option Settings :=
  match arbiterModeOf p.mode, acPolicyOf p.acPolicy with
  | some m, some a =>
    some ⟨p.budget.toNat, m, p.resumeDeadline.toNat, p.holdTime.toNat, p.sleepInterval.toNat, a⟩
  | _, _ => none

/-- Check 3 of R205. -/
def clampSettings (t : Settings) : Settings :=
  { t with
    budget := clamp 1 255 t.budget
    resumeDeadline := clamp 0 600 t.resumeDeadline
    holdTime := clamp 1 15 t.holdTime
    sleepInterval := clamp 10 1000 t.sleepInterval }

/-- The nine bytes of a SOURCE_PUT payload as its fields. -/
def sourcePayloadOf (p : List Byte) : SourcePayload :=
  ⟨byteAt p 0, byteAt p 1, byteAt p 2, byteAt p 3, halfOfBytes (byteAt p 4) (byteAt p 5), byteAt p 6, byteAt p 7,
    byteAt p 8⟩

/-- The eight bytes of a SETTINGS_PUT payload as its fields. -/
def settingsPayloadOf (p : List Byte) : SettingsPayload :=
  ⟨byteAt p 0, byteAt p 1, halfOfBytes (byteAt p 2) (byteAt p 3), byteAt p 4, halfOfBytes (byteAt p 5) (byteAt p 6),
    byteAt p 7⟩

/-! ### The CRC-16 (R201) -/

/-- One bit of the CRC: polynomial 0x1021, most significant bit first. -/
def crcBit (crc : BitVec 16) : BitVec 16 := if crc.msb then (crc <<< 1) ^^^ 0x1021 else crc <<< 1

/-- One byte of the CRC. -/
def crcByte (crc : BitVec 16) (b : Byte) : BitVec 16 := Nat.iterate crcBit 8 (crc ^^^ (b.setWidth 16 <<< 8))

/-- A function of a number that is evaluated first: it is `f n` (`force_eq`). -/
def force {α : Type} (n : Nat) (f : Nat → α) : α :=
  match n with
  | 0 => f 0
  | k + 1 => f (k + 1)

theorem force_eq {α : Type} (n : Nat) (f : Nat → α) : force n f = f n := by cases n <;> rfl

/-- The CRC of some bytes after a value. -/
def crcFrom (crc : BitVec 16) : List Byte → BitVec 16
  | [] => crc
  | b :: l => force (crcByte crc b).toNat (fun n => crcFrom (BitVec.ofNat 16 n) l)

theorem crcFrom_eq_foldl (crc : BitVec 16) (l : List Byte) : crcFrom crc l = l.foldl crcByte crc := by
  induction l generalizing crc with
  | nil => rfl
  | cons b l ih => rw [crcFrom, force_eq, BitVec.ofNat_toNat, BitVec.setWidth_eq, ih, List.foldl_cons]

/-- The CRC-16 of some bytes, initial value 0xFFFF. -/
def crc16 (l : List Byte) : BitVec 16 := crcFrom 0xFFFF l

/-! ### The image (R201) -/

/-- The format marker. -/
def marker : List Byte := [0xC7, 0x12]

/-- A node record in 32 bytes; the window bytes are 0 when the window part is absent (R201). The other fields the kind
does not hold, and the place of the prerequisites, are as NODE_GET sends them: the model's choice (entry 41). -/
def storedRecord (cfg : WorkingConfig) (i : Slot) : List Byte :=
  let l := recordBytes i (cfg.node i)
  l ++ List.replicate (32 - l.length) 0

/-- The source ids in order. -/
def sourceIds : List SourceId := [0, 1, 2, 3, 4, 5, 6, 7, 8, 9]

/-- The 740 bytes before the CRC. -/
def imageBody (cfg : WorkingConfig) : List Byte :=
  marker ++ slots.flatMap (storedRecord cfg) ++ sourceIds.flatMap (fun id => byte1 id.val :: sourceFields cfg id)
    ++ settingsBytes cfg.settings

/-- The image of a working configuration; the CRC's low byte first (entry 12). -/
def encodeImage (cfg : WorkingConfig) : List Byte := imageBody cfg ++ bytesOfHalf (crc16 (imageBody cfg))

/-- The 32 bytes of a slot in an image. -/
def recordChunk (l : List Byte) (i : Slot) : List Byte := (l.drop (2 + 32 * i.val)).take 32

/-- The nine bytes of a source in an image. -/
def sourceChunk (l : List Byte) (id : Nat) : List Byte := (l.drop (642 + 9 * id)).take 9

/-- A valid image holds records a SAVE wrote, which parse; NONE stands for one that would not (entry 31). -/
def loadRecord (l : List Byte) (i : Slot) : Option NodeRecord := (parseRecord (recordChunk l i)).getD none

/-- The working configuration in an image. -/
def decodeImage (l : List Byte) : WorkingConfig where
  nodes := Vector.ofFn (loadRecord l)
  lines := Vector.ofFn (fun k => (lineOfPayload (sourcePayloadOf (sourceChunk l k.val))).getD .default)
  button := (buttonOfPayload (sourcePayloadOf (sourceChunk l 8))).getD .default
  link := (linkOfPayload (sourcePayloadOf (sourceChunk l 9))).getD .default
  settings := (settingsOfPayload (settingsPayloadOf (l.drop 732))).getD .default

/-- What a load finds (R202, step 2). -/
def loadResult : Image → StoreResult
  | .noMarker => .noMarker
  | .torn => .badCrc
  | .bytes l =>
    if l.take 2 ≠ marker then .noMarker
    else if bytesOfHalf (crc16 (l.take 740)) ≠ (l.drop 740).take 2 then .badCrc
    else .ok

/-- The working configuration a load leaves (R202, step 3). -/
def loadedConfig : Image → WorkingConfig
  | .noMarker | .torn => .default
  | .bytes l => if loadResult (.bytes l) = .ok then decodeImage l else .default

end Sys2Proof.Machine
end

