-- ==== Sys2Proof/Machine/Requests.lean ====
section
/-! DEFINITION. The meanings of the sixteen requests of Table 11-1, each with its owner's answer. -/

namespace Sys2Proof.Machine

/-! ### STATUS (R198) -/

/-- Byte 3 of Table 11-5. -/
def stepHoldCode (b : Board) : Nat := if !b.stepHold then 0 else if b.held then 2 else 1

/-- The STATUS reply after its status byte (Table 11-5). -/
def statusContents (s : State) : List Byte :=
  let b := s.board
  [byte1 b.platform.code, byte1 b.phase.code, byte1 (stepHoldCode b), optByte (b.record.map (fun r => r.kind.code)),
    byte1 b.lockout.code, flagByte s.store.unconfigured, byte1 b.counter, byte1 (outOfLevel s.cfg b),
    flagByte s.inputs.acokHigh, flagByte s.inputs.hotshutActive, byte1 b.wakes.length]
  ++ b.wakes.map (fun id => byte1 id.val)

/-- The state STATUS leaves. -/
def afterStatus (s : State) : State := s.request 0x01 [] (fun s => .tell s (statusContents s))

/-- STATUS. -/
def execStatus (s : State) : Host.Outcome State Fault Refusal := .next (afterStatus s)

/-! ### ENTER (R5, R6) -/

/-- The requested dwell kept with the transition: none for 0, at most 1440 (R6). -/
def keptDwell (dwell : Half) : Option Nat := if dwell = 0 then none else some (min 1440 dwell.toNat)

/-- The engine's answer to ENTER. -/
def enterAnswer (target : Byte) (dwell : Half) (s : State) : Answer :=
  match enterCheck s target dwell with
  | .error st => .refuse s st
  | .ok p =>
    .starts { s with board := start s.env s.board (enterKind s.board.platform p) p .request none (keptDwell dwell) }
      (if 1440 < dwell.toNat then .clamped else .accepted)

/-- The state ENTER leaves. -/
def afterEnter (target : Byte) (dwell : Half) (s : State) : State :=
  s.request 0x02 (target :: bytesOfHalf dwell) (enterAnswer target dwell)

/-- ENTER. -/
def execEnter (target : Byte) (dwell : Half) (s : State) : Host.Outcome State Fault Refusal :=
  .next (afterEnter target dwell s)

/-! ### WAKE (R125) -/

/-- The wake unit's answer to WAKE. -/
def wakeAnswer (s : State) : Answer :=
  if s.board.phase ≠ .idle then .refuse s .busy
  else if s.board.platform = .working || !armed s.env s.board linkId then .refuse s .state
  else .starts { s with board := arrive s.env s.board linkId } .accepted

/-- The state WAKE leaves. -/
def afterWake (s : State) : State := s.request 0x03 [] wakeAnswer

/-- WAKE. -/
def execWake (s : State) : Host.Outcome State Fault Refusal := .next (afterWake s)

/-! ### CHECKIN (R175) -/

/-- The watchdog's answer to CHECKIN. -/
def checkinAnswer (s : State) : Answer :=
  match s.board.watchdog with
  | .disarmed => .done s .ok
  | .armed .. => .done { s with board := { s.board with watchdog := .disarmed, counter := 0 } } .ok

/-- The state CHECKIN leaves. -/
def afterCheckin (s : State) : State := s.request 0x04 [] checkinAnswer

/-- CHECKIN. -/
def execCheckin (s : State) : Host.Outcome State Fault Refusal := .next (afterCheckin s)

/-! ### HOLD and PROCEED (R26, R27) -/

/-- The engine's answer to HOLD. HOLD off releases the held action and every action behind it. -/
def holdAnswer (field : Byte) (s : State) : Answer :=
  match field.toNat with
  | 0 => .starts { s with board := { s.board with stepHold := false, held := false } } .ok
  | 1 => .done { s with board := { s.board with stepHold := true } } .ok
  | _ => .refuse s .range

/-- The state HOLD leaves. -/
def afterHold (field : Byte) (s : State) : State := s.request 0x05 [field] (holdAnswer field)

/-- HOLD. -/
def execHold (field : Byte) (s : State) : Host.Outcome State Fault Refusal := .next (afterHold field s)

/-- The engine's answer to PROCEED. -/
def proceedAnswer (s : State) : Answer :=
  if s.board.held then .starts { s with board := issueHead s.env s.board } .ok else .refuse s .state

/-- The state PROCEED leaves. -/
def afterProceed (s : State) : State := s.request 0x06 [] proceedAnswer

/-- PROCEED. -/
def execProceed (s : State) : Host.Outcome State Fault Refusal := .next (afterProceed s)

/-! ### LAST (R25) -/

/-- The engine's answer to LAST. -/
def lastAnswer (s : State) : Answer :=
  match s.board.last with
  | none => .refuse s .state
  | some r => .tell s (doneFields r ++ r.absorbed.map (fun id => byte1 id.val))

/-- The state LAST leaves. -/
def afterLast (s : State) : State := s.request 0x07 [] lastAnswer

/-- LAST. -/
def execLast (s : State) : Host.Outcome State Fault Refusal := .next (afterLast s)

/-! ### NODE_GET, NODE_PUT, CLEAR_FAULT (Chapter 2) -/

/-- The live state after the record in a NODE_GET reply (R200). -/
def liveBytes (cfg : WorkingConfig) (b : Board) (i : Slot) : List Byte :=
  let n := b.node i
  [byte1 n.state.code, optByte (n.state.faultKind.map FaultKind.code), byte1 n.retriesLeft]
    ++ optNum2 (faultSample cfg b i)

/-- The node table's answer to NODE_GET (R49). -/
def nodeGetAnswer (slot : Byte) (s : State) : Answer :=
  match finOf 20 slot with
  | none => .refuse s .range
  | some i => .tell s (recordBytes i (s.cfg.node i) ++ liveBytes s.cfg s.board i)

/-- The state NODE_GET leaves. -/
def afterNodeGet (slot : Byte) (s : State) : State := s.request 0x10 [slot] (nodeGetAnswer slot)

/-- NODE_GET. -/
def execNodeGet (slot : Byte) (s : State) : Host.Outcome State Fault Refusal := .next (afterNodeGet slot s)

/-- An accepted put: the record replaces the one held, with the effects of R47. -/
def State.putNode (s : State) (i : Slot) (rec : Option NodeRecord) : State :=
  { s with
    cfg := s.cfg.putNode i rec
    board := boardAfterPut s.board i (s.cfg.node i) rec }

/-- The node table's answer to NODE_PUT (R40, R41). -/
def nodePutAnswer (p : List Byte) (s : State) : Answer :=
  if p.length ≠ recordLength p then .refuse s .frame
  else if s.board.phase.inTransition || s.isSaving then .refuse s .busy
  else
    match finOf 20 (byteAt p 0), parseRecord p with
    | some i, some rec =>
      match putRefusal s.cfg s.board i rec with
      | some st => .refuse s st
      | none =>
        let held := rec.map clampNode
        .done (s.putNode i held) (if held = rec then .ok else .clamped)
    | _, _ => .refuse s .range

/-- The state NODE_PUT leaves. -/
def afterNodePut (payload : List Byte) (s : State) : State := s.request 0x11 payload (nodePutAnswer payload)

/-- NODE_PUT. -/
def execNodePut (payload : List Byte) (s : State) : Host.Outcome State Fault Refusal := .next (afterNodePut payload s)

/-- The node table's answer to CLEAR_FAULT (R50). -/
def clearFaultAnswer (slot : Byte) (s : State) : Answer :=
  match finOf 20 slot with
  | none => .refuse s .range
  | some i =>
    if s.board.phase.inTransition then .refuse s .busy
    else if (s.board.stateOf i).isFaulted then .done { s with board := enter s.cfg s.board i .off none } .ok
    else .refuse s .state

/-- The state CLEAR_FAULT leaves. -/
def afterClearFault (slot : Byte) (s : State) : State := s.request 0x12 [slot] (clearFaultAnswer slot)

/-- CLEAR_FAULT. -/
def execClearFault (slot : Byte) (s : State) : Host.Outcome State Fault Refusal := .next (afterClearFault slot s)

/-! ### READ_RAIL (R107) -/

/-- The READ_RAIL reply after its status byte (R200). -/
def railContents (n : Node) : List Byte :=
  optNum2 n.lastSample ++ [byte1 n.lastClass.code, flagByte n.saturated, byte1 n.state.code,
    optByte (n.state.faultKind.map FaultKind.code)]

/-- The monitor's answer to READ_RAIL. While UNCONFIGURED holds every slot is refused (R107), a slot that a NODE_PUT has
filled meanwhile too (entry 40). -/
def readRailAnswer (slot : Byte) (s : State) : Answer :=
  match finOf 20 slot with
  | none => .refuse s .range
  | some i =>
    if !s.store.unconfigured && (s.cfg.node i).any (fun r => r.body.isAnalog) then .tell s (railContents (s.board.node i))
    else .refuse s .range

/-- The state READ_RAIL leaves. -/
def afterReadRail (slot : Byte) (s : State) : State := s.request 0x13 [slot] (readRailAnswer slot)

/-- READ_RAIL. -/
def execReadRail (slot : Byte) (s : State) : Host.Outcome State Fault Refusal := .next (afterReadRail slot s)

/-! ### SOURCE_GET, SOURCE_PUT (R126 to R128) -/

/-- The qualifier part of a SOURCE_GET reply; absent for BUTTON and LINK (entry 27). -/
def qualifierBytes (s : State) (id : SourceId) : List Byte :=
  if h : id.val < 8 then
    let q := s.qual ⟨id.val, h⟩
    [byte1 q.state.code, byte1 q.tally]
  else [0xFF, 0xFF]

/-- Whether a source is on the pending wake list, and where. -/
def listBytes (wakes : List SourceId) (id : SourceId) : List Byte :=
  if id ∈ wakes then [1, byte1 (wakes.idxOf id)] else [0, 0xFF]

/-- The wake unit's answer to SOURCE_GET. -/
def sourceGetAnswer (id : Byte) (s : State) : Answer :=
  match finOf 10 id with
  | none => .refuse s .range
  | some k => .tell s (sourceFields s.cfg k ++ qualifierBytes s k ++ listBytes s.board.wakes k)

/-- The state SOURCE_GET leaves. -/
def afterSourceGet (id : Byte) (s : State) : State := s.request 0x18 [id] (sourceGetAnswer id)

/-- SOURCE_GET. -/
def execSourceGet (id : Byte) (s : State) : Host.Outcome State Fault Refusal := .next (afterSourceGet id s)

/-- A qualifier started afresh from the line's present level (R111). -/
def freshQualifier (r : LineRecord) (level : Level) (now : Nat) : Qualifier :=
  if r.mode.isLevel && level == r.mode.activeLevel then ⟨.debouncing, some (now + r.debounce), 0, none⟩
  else .reset

/-- A put changes a qualification field of a line (R128). -/
def requalifies (old new : LineRecord) : Bool :=
  !(old.mode == new.mode && old.debounce == new.debounce && old.edgeCount == new.edgeCount && old.window == new.window)

/-- Write the qualifier of a wake line. -/
def State.setQual (s : State) (l : WakeLine) (q : Qualifier) : State := { s with quals := s.quals.set l.val q l.isLt }

/-- A line's record is replaced (R128). -/
def State.putLine (s : State) (l : WakeLine) (r : LineRecord) : State :=
  let s1 := if requalifies (s.cfg.line l) r then s.setQual l (freshQualifier r (s.pins.wk.get l) s.now) else s
  { s1 with cfg := { s.cfg with lines := s.cfg.lines.set l.val r l.isLt } }

/-- The record a SOURCE_PUT leaves for a source: the state with it and whether a value was clamped; none where a code
or the armed set lies outside its list (R127). -/
def putSource (s : State) (id : SourceId) (p : SourcePayload) : Option (State × Bool) :=
  if h : id.val < 8 then
    (lineOfPayload p).map (fun r => (s.putLine ⟨id.val, h⟩ (clampLine r), clampLine r != r))
  else if id = buttonId then
    (buttonOfPayload p).map (fun r => ({ s with cfg := { s.cfg with button := clampButton r } }, clampButton r != r))
  else (linkOfPayload p).map (fun r => ({ s with cfg := { s.cfg with link := clampLink r } }, clampLink r != r))

/-- The wake unit's answer to SOURCE_PUT. -/
def sourcePutAnswer (p : SourcePayload) (s : State) : Answer :=
  if s.board.phase.inTransition || s.isSaving then .refuse s .busy
  else
    match (finOf 10 p.id).bind (fun id => putSource s id p) with
    | none => .refuse s .range
    | some (s1, clamped) => .starts s1 (if clamped then .clamped else .ok)

/-- The state SOURCE_PUT leaves. -/
def afterSourcePut (p : SourcePayload) (s : State) : State := s.request 0x19 (sourcePayloadBytes p) (sourcePutAnswer p)

/-- SOURCE_PUT. -/
def execSourcePut (p : SourcePayload) (s : State) : Host.Outcome State Fault Refusal := .next (afterSourcePut p s)

/-! ### SETTINGS_GET, SETTINGS_PUT (R205) -/

/-- The state SETTINGS_GET leaves. -/
def afterSettingsGet (s : State) : State := s.request 0x1C [] (fun s => .tell s (settingsBytes s.cfg.settings))

/-- SETTINGS_GET. -/
def execSettingsGet (s : State) : Host.Outcome State Fault Refusal := .next (afterSettingsGet s)

/-- The store's answer to SETTINGS_PUT. -/
def settingsPutAnswer (p : SettingsPayload) (s : State) : Answer :=
  if s.board.phase.inTransition || s.isSaving then .refuse s .busy
  else
    match settingsOfPayload p with
    | none => .refuse s .range
    | some t =>
      .starts { s with cfg := { s.cfg with settings := clampSettings t } } (if clampSettings t = t then .ok else .clamped)

/-- The state SETTINGS_PUT leaves. -/
def afterSettingsPut (p : SettingsPayload) (s : State) : State :=
  s.request 0x1D (settingsPayloadBytes p) (settingsPutAnswer p)

/-- SETTINGS_PUT. -/
def execSettingsPut (p : SettingsPayload) (s : State) : Host.Outcome State Fault Refusal :=
  .next (afterSettingsPut p s)

/-! ### SAVE (R204) -/

/-- The store's answer to SAVE: the content is taken and the stored image erased. -/
def saveAnswer (s : State) : Answer :=
  if s.board.phase ≠ .idle || s.isSaving then .refuse s .busy
  else .done { s with store := { s.store with image := .torn, saving := some ⟨s.now, s.cfg⟩ } } .accepted

/-- The state SAVE leaves. -/
def afterSave (s : State) : State := s.request 0x1E [] saveAnswer

/-- SAVE. -/
def execSave (s : State) : Host.Outcome State Fault Refusal := .next (afterSave s)

end Sys2Proof.Machine
end

