-- ==== Sys2Proof/Machine/StartUp.lean ====
section
/-! DEFINITION. Part reset, the load event and the end of a SAVE (Chapter 12). -/

namespace Sys2Proof.Machine

/-! ### Part reset (R189, R197, R202) -/

/-- Standby power arrives or RESET_N is asserted, and reset is held for a time. The stored image is nonvolatile; a
SAVE in progress ends and leaves an image without a valid CRC (R204). -/
def afterPartReset (held : Nat) (s : State) : State :=
  { State.reset with
    pending := s.pending
    now := s.now
    free := s.free
    startup := .awaitLoad (s.now + held)
    pins := s.pins
    store := ⟨if s.store.saving.isSome then .torn else s.store.image, none, false⟩ }

/-- PART_RESET. -/
def execPartReset (held : Nat) (s : State) : Host.Outcome State Fault Refusal := .next (afterPartReset held s)

/-! ### The load event (R202) -/

/-- The output lines at the load event: each bound line at the off level of its node (R31). -/
def boundOff (cfg : WorkingConfig) : Vector Drive 16 :=
  slots.foldl (fun outs i => outsFor cfg outs i .off) (Vector.replicate 16 .released)

/-- The live half of a slot at the load event (R39). -/
def loadedNode (cfg : WorkingConfig) (i : Slot) : Node := { Node.reset with retriesLeft := retriesOf (cfg.node i) }

/-- The board at the load event with its STORE notice and, with HOTSHUT_N active, the THERMAL lockout (R202, steps 4
to 7). -/
def loadedBoard (cfg : WorkingConfig) (result : StoreResult) (hot : Bool) : Board :=
  { Board.reset with
    nodes := Vector.ofFn (loadedNode cfg)
    outs := boundOff cfg
    lockout := if hot then .thermal else .none
    notices := [⟨.store .load result, 1, false⟩] }

/-- The button qualifier at the load event (R180). -/
def loadedPanel (pwrbtn : Level) : Panel :=
  { Panel.reset with button := if pwrbtn = .low then .waitRelease else .released }

/-- The part as the load event leaves it before anything starts (R202, steps 1 to 7). -/
def loadedState (pins : Pins) (s : State) : State :=
  let result := loadResult s.store.image
  let cfg := loadedConfig s.store.image
  let hot := pins.hotshut == .low
  { s with
    startup := .running
    pins := pins
    cfg := cfg
    board := loadedBoard cfg result hot
    inputs := ⟨pins.acok == .high, hot, none, none⟩
    monitor := startSleep s.now cfg.settings.sleepInterval
    quals := Vector.ofFn (fun l => freshQualifier (cfg.line l) (pins.wk.get l) s.now)
    panel := loadedPanel pins.pwrbtn
    ledOn := false
    link := ⟨pins.addr == .high, none, none, true, [], []⟩
    store := ⟨s.store.image, none, result != .ok⟩ }

/-- Step 8: with a loaded image and no lockout, the AC restore mark as the policy says and the start-up RELEVEL. -/
def startUp (s : State) : State :=
  if s.board.mayStart s.env then
    let b := { s.board with acRestore := s.cfg.settings.acPolicy == .powerOn }
    { s with board := start s.env b .relevel .off .start none none }
  else s

/-- The load event, taken once after reset has ended. -/
def afterLoadEvent (pins : Pins) (s : State) : State :=
  match s.startup with
  | .running => s
  | .awaitLoad t =>
    if t ≤ s.now then finish (loadedState pins s) (startUp (loadedState pins s)) else s

/-- LOAD_EVENT. -/
def execLoadEvent (pins : Pins) (s : State) : Host.Outcome State Fault Refusal := .next (afterLoadEvent pins s)

/-! ### The end of a SAVE (R204) -/

/-- The image a SAVE leaves, and whether UNCONFIGURED still holds. -/
def savedStore (st : Store) (job : SaveJob) (readsBack : Bool) : Store :=
  ⟨if readsBack then .bytes (encodeImage job.content) else .torn, none, st.unconfigured && !readsBack⟩

/-- A SAVE ends, with result OK or VERIFY. -/
def afterSaveEnd (readsBack : Bool) (s : State) : State :=
  match s.store.saving with
  | none => s
  | some job =>
    if job.startedAt ≤ s.now then
      finish s { s with
        store := savedStore s.store job readsBack
        board := s.board.post (.store .save (if readsBack then .ok else .verify)) }
    else s

/-- SAVE_END. -/
def execSaveEnd (readsBack : Bool) (s : State) : Host.Outcome State Fault Refusal := .next (afterSaveEnd readsBack s)

end Sys2Proof.Machine
end

