-- ==== Sys2Proof/Machine/Timers.lean ====
section
/-! DEFINITION. The expiries of node deadlines (Chapter 3), of the dwell and of the resume watchdog (Chapter 9). An
expiry command finds its timer expired or changes nothing (entry 2). -/

namespace Sys2Proof.Machine

/-! ### Node deadlines -/

/-- A node deadline's expiry, when it is due. -/
def State.expire (s : State) (i : Slot) (k : DeadlineKind) (f : Env → Board → Slot → Board) : State :=
  if deadlineDue s.now s.board i k then finish s { s with board := f s.env s.board i } else s

/-- RAMP_DEADLINE_EXPIRY (R59, R64, R65, R71). -/
def execRampDeadlineExpiry (i : Slot) (s : State) : Host.Outcome State Fault Refusal :=
  .next (s.expire i .ramp rampExpires)

/-- SETTLE_TIME_EXPIRY (R60, R64, R65, R70, R71). -/
def execSettleTimeExpiry (i : Slot) (s : State) : Host.Outcome State Fault Refusal :=
  .next (s.expire i .settle settleExpires)

/-- DISCHARGE_DEADLINE_EXPIRY (R62 to R65, R70, R72, R73). -/
def execDischargeDeadlineExpiry (i : Slot) (s : State) : Host.Outcome State Fault Refusal :=
  .next (s.expire i .discharge dischargeExpires)

/-! ### The dwell (R167) -/

/-- The dwell's expiry, when it is due. -/
def afterDwellExpiry (s : State) : State :=
  match s.board.dwell with
  | .running _ expiry =>
    if expiry ≤ s.now then finish s { s with board := { s.board with dwell := .expired } } else s
  | .none | .expired => s

/-- DWELL_EXPIRY. -/
def execDwellExpiry (s : State) : Host.Outcome State Fault Refusal := .next (afterDwellExpiry s)

/-! ### The resume watchdog (R174, R176) -/

/-- The warning point after arming (R171). -/
def warnAfter (deadline : Nat) : Nat := deadline * 3 / 4

/-- The warning point, when it is reached with no warning given yet. -/
def afterWatchdogWarn (s : State) : State :=
  match s.board.watchdog with
  | .armed deadline at_ false kind outcome =>
    if at_ + warnAfter deadline ≤ s.now then
      let b := { s.board with watchdog := .armed deadline at_ true kind outcome }
      State.attn { s with
        board := b.post (.warn (deadline - warnAfter deadline) s.board.counter kind outcome) }
    else s
  | .armed _ _ true _ _ | .disarmed => s

/-- WATCHDOG_WARN. -/
def execWatchdogWarn (s : State) : Host.Outcome State Fault Refusal := .next (afterWatchdogWarn s)

/-- The expiry of an ARMED watchdog, when it is due. -/
def afterWatchdogExpiry (s : State) : State :=
  match s.board.watchdog with
  | .armed deadline at_ _ _ _ =>
    if at_ + deadline ≤ s.now then
      finish s { s with board := { s.board with
        watchdog := .disarmed, counter := min 3 (s.board.counter + 1), recovery := true } }
    else s
  | .disarmed => s

/-- WATCHDOG_EXPIRY. -/
def execWatchdogExpiry (s : State) : Host.Outcome State Fault Refusal := .next (afterWatchdogExpiry s)

end Sys2Proof.Machine
end

