-- ==== Sys2Proof/Machine/WakeLines.lean ====
section
/-! DEFINITION. The line qualifiers: what a change of a wake line and the expiry of its timers do (R112, R113). -/

namespace Sys2Proof.Machine

/-- A qualifier after an event, and whether its source arrives. -/
structure Qualified where
  qual : Qualifier
  arrives : Bool
  deriving DecidableEq, Repr

/-- An edge is counted (R113). -/
def countEdge (r : LineRecord) (q : Qualifier) (now : Nat) : Qualified :=
  if r.edgeCount ≤ q.tally + 1 then ⟨⟨.idle, none, 0, none⟩, true⟩
  else ⟨⟨.counting, none, q.tally + 1, if q.tally = 0 then some (now + r.window) else q.window⟩, false⟩

/-- The line takes its active level: in IDLE, or in COUNTING for an edge mode, the debounce starts or is over at once
(R112, R113). -/
def lineActive (r : LineRecord) (q : Qualifier) (now : Nat) : Qualified :=
  match q.state with
  | .idle | .counting =>
    if r.debounce = 0 then
      if r.mode.isLevel then ⟨{ q with state := .active, debounce := none }, true⟩ else countEdge r q now
    else ⟨{ q with state := .debouncing, debounce := some (now + r.debounce) }, false⟩
  | .debouncing | .active => ⟨q, false⟩

/-- The line leaves its active level (R112, R113). -/
def lineInactive (r : LineRecord) (q : Qualifier) : Qualifier :=
  match q.state with
  | .debouncing => { q with state := if r.mode.isLevel ∨ q.tally = 0 then .idle else .counting, debounce := none }
  | .active => { q with state := .idle }
  | .idle | .counting => q

/-- The debounce timer expires in DEBOUNCING (R112, R113). -/
def debounceEnds (r : LineRecord) (q : Qualifier) (now : Nat) : Qualified :=
  if r.mode.isLevel then ⟨{ q with state := .active, debounce := none }, true⟩ else countEdge r q now

/-- The window timer expires: the tally is discarded; an edge that is DEBOUNCING stays so (R113). -/
def windowEnds (q : Qualifier) : Qualifier :=
  { q with tally := 0, window := none, state := if q.state = .debouncing then .debouncing else .idle }

/-- The qualifier is written, and the source arrives when it is qualified (R114 to R119). On an IDLE engine the claim it
raises is taken inside this same event, unless an ENTER comes first (R7, R120; `enterFirst`). -/
def State.qualify (s : State) (l : WakeLine) (r : Qualified) : State :=
  let s1 := s.setQual l r.qual
  if r.arrives then finish s { s1 with board := arrive s.env s.board (lineId l) } else s1

/-- Write the level of a wake line's pin. -/
def State.setWake (s : State) (l : WakeLine) (level : Level) : State :=
  { s with pins := { s.pins with wk := s.pins.wk.set l.val level l.isLt } }

/-- A wake line changes to a level. Before the load event the pin alone moves (entry 9). -/
def afterWakeLineChange (l : WakeLine) (level : Level) (s : State) : State :=
  if !s.isUp || s.pins.wk.get l == level then s.setWake l level
  else
    let r := s.cfg.line l
    let s1 := s.setWake l level
    if level = r.mode.activeLevel then s1.qualify l (lineActive r (s.qual l) s.now)
    else s1.qualify l ⟨lineInactive r (s.qual l), false⟩

/-- WAKE_LINE_CHANGE. -/
def execWakeLineChange (l : WakeLine) (level : Level) (s : State) : Host.Outcome State Fault Refusal :=
  .next (afterWakeLineChange l level s)

/-- A timer is set and has expired. -/
def timerDue (t : Option Nat) (now : Nat) : Bool := t.any (fun t => decide (t ≤ now))

/-- A debounce expires, when it is due. -/
def afterWakeDebounceExpiry (l : WakeLine) (s : State) : State :=
  let q := s.qual l
  if q.state = .debouncing ∧ timerDue q.debounce s.now then s.qualify l (debounceEnds (s.cfg.line l) q s.now) else s

/-- WAKE_DEBOUNCE_EXPIRY. -/
def execWakeDebounceExpiry (l : WakeLine) (s : State) : Host.Outcome State Fault Refusal :=
  .next (afterWakeDebounceExpiry l s)

/-- A count window expires, when it is due. -/
def afterCountWindowExpiry (l : WakeLine) (s : State) : State :=
  let q := s.qual l
  if timerDue q.window s.now then s.setQual l (windowEnds q) else s

/-- COUNT_WINDOW_EXPIRY. -/
def execCountWindowExpiry (l : WakeLine) (s : State) : Host.Outcome State Fault Refusal :=
  .next (afterCountWindowExpiry l s)

end Sys2Proof.Machine
end

