-- ==== Sys2Proof/Machine/Clock.lean ====
section
/-! DEFINITION. The passing of time on an empty queue: one millisecond a step, unless an event of the manual is due
and its command has not been given (entry 1). -/

namespace Sys2Proof.Machine

/-- The load event must fall within 5 ms of the end of reset (R202). -/
def loadDue (s : State) : Bool :=
  match s.startup with
  | .running => false
  | .awaitLoad t => decide (t + 5 ≤ s.now)

/-- The end of a SAVE must fall within 50 ms of its start (R204). -/
def saveDue (s : State) : Bool := s.store.saving.any (fun job => decide (job.startedAt + 50 ≤ s.now))

/-- A node deadline has expired. -/
def deadlinesDue (s : State) : Bool :=
  slots.any (fun i => (s.board.node i).deadline.any (fun d => decide (d.expiry ≤ s.now)))

/-- A timer of a line qualifier has expired. -/
def linesDue (s : State) : Bool :=
  wakeLines.any (fun l => timerDue (s.qual l).debounce s.now || timerDue (s.qual l).window s.now)

/-- A timer of the front panel or of the fault handler's filters has expired. -/
def panelDue (s : State) : Bool :=
  timerDue s.panel.debounce s.now || timerDue s.panel.holdTimer s.now
    || s.panel.segment.any (fun g => decide (g.expiry ≤ s.now))
    || timerDue s.inputs.acokFilter s.now || timerDue s.inputs.hotshutFilter s.now

/-- A round, or the pass of a sleep round, is due. -/
def roundsDue (s : State) : Bool :=
  s.monitor.isDue s.now || (match s.monitor.mode, s.monitor.converter with
    | .sleep, .stabilizing t => decide (t ≤ s.now)
    | _, _ => false)

/-- The dwell or the resume watchdog has come to a point of its own. -/
def longTimersDue (s : State) : Bool :=
  (match s.board.dwell with
    | .running _ expiry => decide (expiry ≤ s.now)
    | .none | .expired => false)
  || (match s.board.watchdog with
    | .armed deadline at_ warned _ _ =>
      (!warned && decide (at_ + warnAfter deadline ≤ s.now)) || decide (at_ + deadline ≤ s.now)
    | .disarmed => false)

/-- An event of the manual is due whose command has not been given. -/
def eventDue (s : State) : Bool :=
  loadDue s || saveDue s || deadlinesDue s || linesDue s || panelDue s || roundsDue s || longTimersDue s

/-- What the block does with no command waiting. -/
def idle (s : State) : State := if eventDue s then s else { s with now := s.now + 1 }

/-- A command put at the front of the queue. -/
def State.withCommand (s : State) (c : Instr) : State := { s with pending := c :: s.pending }

end Sys2Proof.Machine
end

