-- ==== Sys2Proof/Machine/BusCommands.lean ====
section
/-! DEFINITION. The meanings of the bus transactions that are no row of Table 11-1 (R189 to R194). -/

namespace Sys2Proof.Machine

/-- What a request does; a command that is no request of Table 11-1 does nothing here. -/
def afterRequest (c : Instr) (s : State) : State :=
  match c with
  | .status => afterStatus s
  | .enter target dwell => afterEnter target dwell s
  | .wake => afterWake s
  | .checkin => afterCheckin s
  | .hold field => afterHold field s
  | .proceed => afterProceed s
  | .last => afterLast s
  | .nodeGet slot => afterNodeGet slot s
  | .nodePut payload => afterNodePut payload s
  | .clearFault slot => afterClearFault slot s
  | .readRail slot => afterReadRail slot s
  | .sourceGet id => afterSourceGet id s
  | .sourcePut p => afterSourcePut p s
  | .settingsGet => afterSettingsGet s
  | .settingsPut p => afterSettingsPut p s
  | .save => afterSave s
  | .invalidRequest _ | .ignoredWrite _ | .busProbe _ | .readTransaction _ | .partReset _ | .loadEvent _
  | .saveEnd _ | .continuousRound _ | .sleepRoundBegin | .sleepRoundPass _ | .rampDeadlineExpiry _
  | .settleTimeExpiry _ | .dischargeDeadlineExpiry _ | .wakeLineChange _ _ | .wakeDebounceExpiry _
  | .countWindowExpiry _ | .pwrbtnChange _ | .buttonDebounceExpiry | .holdTimerExpiry | .segmentExpiry
  | .inputPinChange _ _ | .inputFilterExpiry _ | .dwellExpiry | .watchdogWarn | .watchdogExpiry => s

/-- A write transaction with any data bytes (R189 to R191): nobody on the bus, a full slot, an ignored LEN, a frame
answered FRAME or TYPE, or a request that is taken. Bytes beyond LEN are refused and the frame stands as received. -/
def afterWrite (bytes : List Byte) (s : State) : State :=
  match s.writeCase with
  | .silent | .full => s.refuseWrite bytes
  | .ready =>
    match frameVerdict bytes with
    | .probe | .ignored => s.refuseWrite bytes
    | .badFrame => s.placeReply bytes (byteAt bytes 0).toNat .frame []
    | .badType => s.placeReply bytes (byteAt bytes 0).toNat .type []
    | .request type p =>
      match requestOfPayload type p with
      | none => s.refuseWrite bytes
      | some c => (afterRequest c s).putAcks (acksOfWrite bytes)

/-- INVALID_REQUEST: a write whose frame R191 answers FRAME or TYPE. It carries the write's bytes, and bytes that come to
something else have that effect (entry 15). -/
def execInvalidRequest (bytes : List Byte) (s : State) : Host.Outcome State Fault Refusal := .next (afterWrite bytes s)

/-- IGNORED_WRITE: a write refused at its TYPE or LEN byte (R190). It carries the write's bytes (entry 15). -/
def execIgnoredWrite (bytes : List Byte) (s : State) : Host.Outcome State Fault Refusal := .next (afterWrite bytes s)

/-- A write that ends before any data byte: the address is acknowledged or not, and nothing else happens
(R189, R190). -/
def afterBusProbe (address : BitVec 7) (s : State) : State :=
  { s with link := { s.link with acks := [s.isUp && address == busAddress s.link.addrHigh], sent := [] } }

/-- BUS_PROBE. -/
def execBusProbe (address : BitVec 7) (s : State) : Host.Outcome State Fault Refusal :=
  .next (afterBusProbe address s)

/-- A read transaction: its begin, its end, or the whole of it (R193, R194). Before the load event the address is not
acknowledged. -/
def afterReadTransaction (op : ReadOp) (s : State) : State :=
  if s.isUp then
    match op with
    | .first => s.beginRead
    | .last n => s.endRead n
    | .whole n => s.beginRead.endRead n
  else { s with link := { s.link with acks := [false], sent := [] } }

/-- READ_TRANSACTION. -/
def execReadTransaction (op : ReadOp) (s : State) : Host.Outcome State Fault Refusal :=
  .next (afterReadTransaction op s)

end Sys2Proof.Machine
end

