-- ==== Sys2Proof/Machine/PanelEvents.lean ====
section
/-! DEFINITION. The front panel's events: PWRBTN_N, its debounce, the hold timer, and the indicator's segments
(Chapter 10). -/

namespace Sys2Proof.Machine

/-- The debounce of PWRBTN_N in ms (R180). -/
def buttonDebounce : Nat := 20

/-- The pin falls (R180). -/
def Panel.falls (p : Panel) (now : Nat) : Panel :=
  match p.button with
  | .released => { p with button := .pressDebounce, debounce := some (now + buttonDebounce) }
  | .releaseDebounce => { p with button := .pressed, debounce := none }
  | .waitRelease => { p with debounce := none }
  | .pressDebounce | .pressed => p

/-- The pin rises (R180). -/
def Panel.rises (p : Panel) (now : Nat) : Panel :=
  match p.button with
  | .pressDebounce => { p with button := .released, debounce := none }
  | .pressed => { p with button := .releaseDebounce, debounce := some (now + buttonDebounce) }
  | .waitRelease => { p with debounce := some (now + buttonDebounce) }
  | .released | .releaseDebounce => p

/-- PWRBTN_N changes to a level. Before the load event the pin alone moves (entry 9). -/
def afterPwrbtnChange (level : Level) (s : State) : State :=
  let s1 := { s with pins := { s.pins with pwrbtn := level } }
  if !s.isUp || s.pins.pwrbtn == level then s1
  else
    match level with
    | .low => { s1 with panel := s.panel.falls s.now }
    | .high => { s1 with panel := s.panel.rises s.now }

/-- PWRBTN_CHANGE. -/
def execPwrbtnChange (level : Level) (s : State) : Host.Outcome State Fault Refusal := .next (afterPwrbtnChange level s)

/-- The press record of a press qualified now (R181, step 1). -/
def openPress (s : State) : Press :=
  ⟨s.cfg.settings.holdTime, s.board.platform == .working, s.board.phase, s.board.transitionKind, s.now, false⟩

/-- A press is qualified (R181): the record, the hold timer, and the BUTTON arrival. -/
def State.pressed (s : State) : State :=
  let panel := { s.panel with
    button := .pressed
    debounce := none
    press := some (openPress s)
    holdTimer := some (s.now + s.cfg.settings.holdTime * 1000) }
  finish s { s with panel := panel, board := arrive s.env s.board buttonId }

/-- The BUTTON notice of a short press (R182); its length runs from the fall of the pin. -/
def pressNotice (p : Press) (now : Nat) : Notice :=
  .button (now - p.qualifiedAt + buttonDebounce) p.phase p.transition

/-- A release is taken (R182). -/
def State.released (s : State) : State :=
  let panel := { s.panel with button := .released, debounce := none, press := none, holdTimer := none }
  match s.panel.press with
  | none => { s with panel := panel }
  | some p =>
    if p.working && !p.spent then
      State.attn { s with panel := panel, board := s.board.post (pressNotice p s.now) }
    else { s with panel := panel }

/-- The button's debounce expires, when it is due (R180). -/
def afterButtonDebounceExpiry (s : State) : State :=
  if timerDue s.panel.debounce s.now then
    match s.panel.button with
    | .pressDebounce => s.pressed
    | .releaseDebounce => s.released
    | .waitRelease => { s with panel := { s.panel with button := .released, debounce := none, press := none } }
    | .released | .pressed => s
  else s

/-- BUTTON_DEBOUNCE_EXPIRY. -/
def execButtonDebounceExpiry (s : State) : Host.Outcome State Fault Refusal := .next (afterButtonDebounceExpiry s)

/-- A long press begins an emergency off, except on an IDLE board in OFF and in DRAINING (R153, R183). -/
def longPress (e : Env) (b : Board) : Board :=
  if b.phase = .draining ∨ (b.phase = .idle ∧ b.platform = .off) then b else emergencyOff e b .longPress none

/-- The hold timer expires, when it is due: the press is spent (R183). -/
def afterHoldTimerExpiry (s : State) : State :=
  if timerDue s.panel.holdTimer s.now then
    let panel := { s.panel with
      press := s.panel.press.map (fun p => { p with spent := true })
      holdTimer := none }
    finish s { s with panel := panel, board := longPress s.env s.board }
  else s

/-- HOLD_TIMER_EXPIRY. -/
def execHoldTimerExpiry (s : State) : Host.Outcome State Fault Refusal := .next (afterHoldTimerExpiry s)

/-- The indicator's segment ends, when it is due (R187). -/
def afterSegmentExpiry (s : State) : State :=
  if s.panel.segment.any (fun g => decide (g.expiry ≤ s.now)) then
    let panel := s.panel.segmentEnds s.now
    { s with panel := panel, ledOn := panel.lit }
  else s

/-- SEGMENT_EXPIRY. -/
def execSegmentExpiry (s : State) : Host.Outcome State Fault Refusal := .next (afterSegmentExpiry s)

end Sys2Proof.Machine
end

