-- ==== Sys2Proof/Machine/SupplyInputs.lean ====
section
/-! DEFINITION. ACOK and HOTSHUT_N: the 2 ms filters and what a taken change does (Section 8.5). -/

namespace Sys2Proof.Machine

/-- The filter time in ms (R160). -/
def filterTime : Nat := 2

/-- The pin level of a supply input. -/
def supplyPin (p : Pins) : SupplyInput → Level
  | .acok => p.acok
  | .hotshut => p.hotshut

/-- Write the pin level of a supply input. -/
def setSupplyPin (p : Pins) (i : SupplyInput) (l : Level) : Pins :=
  match i with
  | .acok => { p with acok := l }
  | .hotshut => { p with hotshut := l }

/-- The level the fault handler holds for an input. -/
def Inputs.held (x : Inputs) : SupplyInput → Level
  | .acok => if x.acokHigh then .high else .low
  | .hotshut => if x.hotshutActive then .low else .high

/-- The filter of an input. -/
def Inputs.filter (x : Inputs) : SupplyInput → Option Nat
  | .acok => x.acokFilter
  | .hotshut => x.hotshutFilter

/-- Write the filter of an input. -/
def Inputs.setFilter (x : Inputs) (i : SupplyInput) (t : Option Nat) : Inputs :=
  match i with
  | .acok => { x with acokFilter := t }
  | .hotshut => { x with hotshutFilter := t }

/-- The filter after a change of the pin: a new level starts it, a return to the held level drops it (R160). -/
def filterAfter (held level : Level) (now : Nat) : Option Nat := if level = held then none else some (now + filterTime)

/-- A supply input's pin changes to a level. Before the load event the pin alone moves (entry 9). -/
def afterInputPinChange (i : SupplyInput) (level : Level) (s : State) : State :=
  let s1 := { s with pins := setSupplyPin s.pins i level }
  if !s.isUp || supplyPin s.pins i == level then s1
  else { s1 with inputs := s.inputs.setFilter i (filterAfter (s.inputs.held i) level s.now) }

/-- INPUT_PIN_CHANGE. -/
def execInputPinChange (i : SupplyInput) (level : Level) (s : State) : Host.Outcome State Fault Refusal :=
  .next (afterInputPinChange i level s)

/-- A falling ACOK begins an emergency off in WORKING and in any transition (R161). -/
def acfailStarts (b : Board) : Bool := b.phase.inTransition || (b.phase == .idle && b.platform == .working)

/-- ACOK is taken as falling: the ACFAIL notice, and the emergency off where it begins one (R161). -/
def acokFalls (e : Env) (b : Board) : Board :=
  let b1 := b.post (.acfail b.platform b.phase (acfailStarts b))
  if acfailStarts b then emergencyOff e b1 .acfail none else b1

/-- HOTSHUT_N is taken as asserted (R164). -/
def hotshutAsserted (e : Env) (b : Board) : Board :=
  if b.phase = .draining then { b with thermalMark := true } else emergencyOff e b .thermal none

/-- The handler's levels and filter once a change is taken (R160). -/
def Inputs.take (x : Inputs) (i : SupplyInput) (level : Level) : Inputs :=
  match i with
  | .acok => { x with acokHigh := level == .high, acokFilter := none }
  | .hotshut => { x with hotshutActive := level == .low, hotshutFilter := none }

/-- What a taken change does besides the handler's level; none where that is all: the release of HOTSHUT_N (R164). -/
def supplyChange (e : Env) (b : Board) : SupplyInput → Level → Option Board
  | .acok, .low => some (acokFalls e b)
  | .acok, .high => some b
  | .hotshut, .low => some (hotshutAsserted e b)
  | .hotshut, .high => none

/-- A filter expires, when it is due: the change to the pin's level is taken. A rising ACOK lets the waiting claims be
examined (R162). -/
def afterInputFilterExpiry (i : SupplyInput) (s : State) : State :=
  if timerDue (s.inputs.filter i) s.now then
    let level := supplyPin s.pins i
    let s1 := { s with inputs := s.inputs.take i level }
    match supplyChange s1.env s.board i level with
    | none => s1
    | some b => finish s { s1 with board := b }
  else s

/-- INPUT_FILTER_EXPIRY. -/
def execInputFilterExpiry (i : SupplyInput) (s : State) : Host.Outcome State Fault Refusal :=
  .next (afterInputFilterExpiry i s)

end Sys2Proof.Machine
end

