-- ==== Sys2Proof/Machine/Dispatch.lean ====
section
/-! DEFINITION. One arm per command: the call of its meaning. -/

namespace Sys2Proof.Machine

/-- The effect of a command on everything but the queue. -/
def exec (i : Instr) (s : State) : Host.Outcome State Fault Refusal :=
  match i with
  | .status => Sys2Proof.Machine.execStatus s
  | .enter target dwell => Sys2Proof.Machine.execEnter target dwell s
  | .wake => Sys2Proof.Machine.execWake s
  | .checkin => Sys2Proof.Machine.execCheckin s
  | .hold field => Sys2Proof.Machine.execHold field s
  | .proceed => Sys2Proof.Machine.execProceed s
  | .last => Sys2Proof.Machine.execLast s
  | .nodeGet slot => Sys2Proof.Machine.execNodeGet slot s
  | .nodePut payload => Sys2Proof.Machine.execNodePut payload s
  | .clearFault slot => Sys2Proof.Machine.execClearFault slot s
  | .readRail slot => Sys2Proof.Machine.execReadRail slot s
  | .sourceGet id => Sys2Proof.Machine.execSourceGet id s
  | .sourcePut payload => Sys2Proof.Machine.execSourcePut payload s
  | .settingsGet => Sys2Proof.Machine.execSettingsGet s
  | .settingsPut payload => Sys2Proof.Machine.execSettingsPut payload s
  | .save => Sys2Proof.Machine.execSave s
  | .invalidRequest bytes => Sys2Proof.Machine.execInvalidRequest bytes s
  | .ignoredWrite bytes => Sys2Proof.Machine.execIgnoredWrite bytes s
  | .busProbe address => Sys2Proof.Machine.execBusProbe address s
  | .readTransaction op => Sys2Proof.Machine.execReadTransaction op s
  | .partReset held => Sys2Proof.Machine.execPartReset held s
  | .loadEvent pins => Sys2Proof.Machine.execLoadEvent pins s
  | .saveEnd readsBack => Sys2Proof.Machine.execSaveEnd readsBack s
  | .continuousRound readings => Sys2Proof.Machine.execContinuousRound readings s
  | .sleepRoundBegin => Sys2Proof.Machine.execSleepRoundBegin s
  | .sleepRoundPass readings => Sys2Proof.Machine.execSleepRoundPass readings s
  | .rampDeadlineExpiry slot => Sys2Proof.Machine.execRampDeadlineExpiry slot s
  | .settleTimeExpiry slot => Sys2Proof.Machine.execSettleTimeExpiry slot s
  | .dischargeDeadlineExpiry slot => Sys2Proof.Machine.execDischargeDeadlineExpiry slot s
  | .wakeLineChange line level => Sys2Proof.Machine.execWakeLineChange line level s
  | .wakeDebounceExpiry line => Sys2Proof.Machine.execWakeDebounceExpiry line s
  | .countWindowExpiry line => Sys2Proof.Machine.execCountWindowExpiry line s
  | .pwrbtnChange level => Sys2Proof.Machine.execPwrbtnChange level s
  | .buttonDebounceExpiry => Sys2Proof.Machine.execButtonDebounceExpiry s
  | .holdTimerExpiry => Sys2Proof.Machine.execHoldTimerExpiry s
  | .segmentExpiry => Sys2Proof.Machine.execSegmentExpiry s
  | .inputPinChange input level => Sys2Proof.Machine.execInputPinChange input level s
  | .inputFilterExpiry input => Sys2Proof.Machine.execInputFilterExpiry input s
  | .dwellExpiry => Sys2Proof.Machine.execDwellExpiry s
  | .watchdogWarn => Sys2Proof.Machine.execWatchdogWarn s
  | .watchdogExpiry => Sys2Proof.Machine.execWatchdogExpiry s

end Sys2Proof.Machine
end

