-- ==== Sys2Proof/Safety.lean ====
section
/-! DEFINITION. The laws of the Cindek 712 that every step keeps, and the words its statements use. -/

namespace Sys2Proof.Machine

/-! ### Words for the link -/

/-- The link takes a request: it answers on the bus and its reply slot is empty (R189, R190). -/
def State.isReady (s : State) : Prop := s.isUp = true ∧ s.link.reply = none

/-- A state after a write that placed a reply: the slot, ATTN_N, and the acknowledge bits (R190 to R192, R196). -/
def State.putReply (s : State) (acks : List Bool) (frame : List Byte) : State :=
  { s with link := { s.link with reply := some frame, attnLow := true, acks := acks, sent := [] } }

/-- The same when the address and all of some data bytes were acknowledged. -/
def State.withReply (s : State) (dataBytes : Nat) (frame : List Byte) : State :=
  s.putReply (List.replicate (dataBytes + 1) true) frame

/-- The reply frame of a refused request: the type plus 0x80 and the status byte alone (R192). -/
def refusal (type code : Nat) : List Byte := [byte1 (type + 0x80), 1, byte1 code]

/-! ### The link (R195, R196) -/

/-- At most one notice of each kind, merge counts in 1..255, and ATTN_N low exactly while something waits. -/
def LinkInv (s : State) : Prop :=
  (s.board.notices.map (fun x => x.notice.kind)).Nodup
    ∧ (∀ x ∈ s.board.notices, 1 ≤ x.count ∧ x.count ≤ 255)
    ∧ s.link.attnLow = (s.link.reply.isSome || !s.board.notices.isEmpty)

/-! ### The pending wake list and the resume failure counter (R121, R142) -/

/-- Each source at most once on the list, and the counter in 0..3. -/
def WakeInv (s : State) : Prop := s.board.wakes.Nodup ∧ s.board.counter ≤ 3

/-! ### The rollback stack and step hold (R14, R26, R129) -/

/-- Each node at most once on the stack; no entry, no listed action and no held action outside a transition; an action
is held only under the flag and at the head of a list; between events nothing counts as listed at the event in hand. -/
def StackInv (s : State) : Prop :=
  (s.board.stack.map Action.slot).Nodup
    ∧ (s.board.phase.inTransition = false → s.board.stack = [] ∧ s.board.issue = [] ∧ s.board.held = false)
    ∧ (s.board.held = true → s.board.stepHold = true ∧ s.board.issue ≠ [])
    ∧ s.board.listedNow = []

/-! ### The engine, the two conditions, the long timers (R1 to R4, R23, R24, R147, R163, R165, R171) -/

/-- The rows of the table of kinds (Section 1.3). -/
def kindFits : Kind → Platform → Platform → Bool
  | .up, .hibernate, .working | .up, .off, .working => true
  | .dozeOut, .doze, .working => true
  | .dozeIn, .working, .doze => true
  | .down, .working, .hibernate | .down, .working, .off => true
  | .drop, .doze, .hibernate | .drop, .doze, .off | .drop, .hibernate, .off => true
  | .relevel, p, q => p == q
  | _, _, _ => false

/-- A record is open exactly outside IDLE; its from-state is the platform state and its kind is the table's. -/
def RecordInv (b : Board) : Prop :=
  match b.record with
  | none => b.phase = .idle
  | some r => b.phase ≠ .idle ∧ r.source = b.platform ∧ kindFits r.kind r.source r.target = true
      ∧ (r.origin = some .start → r.target = .off)

/-- The transition in progress, if one is, is a RELEVEL. -/
def onlyRelevel (b : Board) : Prop := b.phase.inTransition = true → ∃ r, b.record = some r ∧ r.kind = .relevel

/-- The emergency cause is present exactly in DRAINING, the thermal mark only there (R147). -/
def EmergencyInv (b : Board) : Prop :=
  (b.cause.isSome = true ↔ b.phase = .draining) ∧ (b.thermalMark = true → b.phase = .draining)

/-- The reversibility mark stands only for a downward transition in progress, a requested dwell only for a DOZE_IN. -/
def MarksInv (b : Board) : Prop :=
  (b.reversible = true → b.phase.inTransition = true ∧ ∃ r, b.record = some r ∧ r.kind.isDownward = true)
    ∧ (∀ m, b.requestedDwell = some m →
        1 ≤ m ∧ m ≤ 1440 ∧ b.phase.inTransition = true ∧ ∃ r, b.record = some r ∧ r.kind = .dozeIn)

/-- The last record names the platform state as reached; before any, the platform is OFF (R1, R24). -/
def LastInv (b : Board) : Prop :=
  match b.last with
  | none => b.platform = .off
  | some r => r.reached = some b.platform

/-- What a follow-on claim says of the platform state (R8). -/
def FollowOnInv (b : Board) : Prop :=
  match b.followOn with
  | none => True
  | some .acRestoreUp | some .recoveryUp => b.platform = .off ∧ b.phase ≠ .draining
  | some .recoveryDrop => (b.platform = .doze ∨ b.platform = .hibernate) ∧ b.phase ≠ .draining

/-- A lockout holds only in OFF, and a transition under it goes from OFF to OFF (R2, R147, R159). -/
def LockoutInv (b : Board) : Prop :=
  b.lockout ≠ .none → b.platform = .off ∧ onlyRelevel b

/-- The dwell runs or has expired only in DOZE, outside emergency off, through a RELEVEL at most (R165, R168). -/
def DwellInv (b : Board) : Prop :=
  (b.dwell ≠ .none → b.platform = .doze ∧ b.phase ≠ .draining ∧ onlyRelevel b)
    ∧ (∀ m t, b.dwell = .running m t → 1 ≤ m ∧ m ≤ 1440)

/-- The watchdog is armed only in WORKING, outside emergency off, through a RELEVEL at most; what armed it is a
completed resume or a reversed descent (R171 to R173). -/
def WatchdogInv (b : Board) : Prop :=
  ∀ deadline at_ warned kind outcome, b.watchdog = .armed deadline at_ warned kind outcome →
    b.platform = .working ∧ b.phase ≠ .draining ∧ onlyRelevel b ∧ 1000 ≤ deadline
      ∧ ((outcome = .completed ∧ kind.isResume = true) ∨ (outcome = .reversed ∧ (kind = .dozeIn ∨ kind = .down)))

/-- The AC restore mark stands only in OFF, and no UP runs under it (R163). -/
def AcRestoreInv (b : Board) : Prop :=
  b.acRestore = true → b.platform = .off ∧ b.phase ≠ .draining ∧ onlyRelevel b

/-- UNCONFIGURED holds only in OFF with no transition in progress (R2, R203). -/
def UnconfiguredInv (s : State) : Prop :=
  s.store.unconfigured = true → s.board.platform = .off ∧ s.board.phase.inTransition = false

/-- The engine, its claims, the lockout, the two long timers and UNCONFIGURED together. -/
def EngineInv (s : State) : Prop :=
  RecordInv s.board ∧ EmergencyInv s.board ∧ MarksInv s.board ∧ LastInv s.board ∧ FollowOnInv s.board
    ∧ LockoutInv s.board ∧ DwellInv s.board ∧ WatchdogInv s.board ∧ AcRestoreInv s.board ∧ UnconfiguredInv s

/-! ### The node switch and the arbiter's charges (R54, R78, R89) -/

/-- Which deadline runs in a node state (Section 3.1). -/
def NodeState.deadlineKind : NodeState → Option DeadlineKind
  | .ramping => some .ramp
  | .settling => some .settle
  | .stopping | .discharging => some .discharge
  | .off | .pending _ | .queued | .good | .faulted _ => none

/-- One deadline of the right kind or none; the context cleared and the counters 0 at rest as OFF or FAULTED; counters
in 0..15; the unobserved mark only in DISCHARGING; a charge only in RAMPING. -/
def NodeInv (n : Node) : Prop :=
  n.deadline.map Deadline.kind = n.state.deadlineKind
    ∧ (n.state.isDown = true → n.ending = .off ∧ n.failure = false ∧ n.forced = false
        ∧ n.inCount = 0 ∧ n.overCount = 0 ∧ n.badCount = 0 ∧ n.offCount = 0)
    ∧ (n.inCount ≤ 15 ∧ n.overCount ≤ 15 ∧ n.badCount ≤ 15 ∧ n.offCount ≤ 15)
    ∧ (n.unobserved = true → n.state = .discharging)
    ∧ (n.charge ≠ 0 → n.state = .ramping)

/-- The switch's context of every slot, no deadline on a NONE slot, and the budget in use as the sum of the charges. -/
def SwitchInv (s : State) : Prop :=
  (∀ i, NodeInv (s.board.node i))
    ∧ (∀ i, s.cfg.node i = none → (s.board.stateOf i).deadlineKind = none)
    ∧ s.board.inUse = (slots.map (fun i => (s.board.node i).charge)).sum

/-! ### Bindings and output lines (R31, R33, R52) -/

/-- Each output line is bound to at most one node. -/
def outputsUnique (cfg : WorkingConfig) : Prop :=
  ∀ i j r q, cfg.node i = some r → cfg.node j = some q → r.output = q.output → i = j

/-- Each analog channel is bound to at most one node. -/
def channelsUnique (cfg : WorkingConfig) : Prop :=
  ∀ i j r q c, cfg.node i = some r → cfg.node j = some q → r.body.channel = some c → q.body.channel = some c → i = j

/-- Each digital input is bound to at most one node, as power-good or as acknowledge line. -/
def inputsUnique (cfg : WorkingConfig) : Prop :=
  ∀ i j r q d, cfg.node i = some r → cfg.node j = some q → r.body.input = some d → q.body.input = some d → i = j

/-- The law of bindings (R33). -/
def bindingsUnique (cfg : WorkingConfig) : Prop := outputsUnique cfg ∧ channelsUnique cfg ∧ inputsUnique cfg

/-- Every bound line is driven at the level its node's state names; every unbound line is released. -/
def linesAgree (cfg : WorkingConfig) (b : Board) : Prop :=
  (∀ i r, cfg.node i = some r → b.outs.get r.output = .driven (r.outLevel (b.stateOf i).level))
    ∧ (∀ o, (∀ i r, cfg.node i = some r → r.output ≠ o) → b.outs.get o = .released)

/-- Lines and node states agree, and the bindings are unique in the working table, in the table a SAVE is writing and
in the table a load would take. -/
def OutputsInv (s : State) : Prop :=
  linesAgree s.cfg s.board ∧ bindingsUnique s.cfg ∧ (∀ job, s.store.saving = some job → bindingsUnique job.content)
    ∧ bindingsUnique (loadedConfig s.store.image)

/-! ### The stored image (R201) -/

/-- The values of a window lie in the ranges of the field table of R29. -/
def Window.inRange (w : Window) : Prop :=
  (1 ≤ w.nominal ∧ w.nominal ≤ 65535) ∧ (1 ≤ w.scale ∧ w.scale ≤ 65535) ∧ (1 ≤ w.underTol ∧ w.underTol ≤ 250)
    ∧ (1 ≤ w.overTol ∧ w.overTol ≤ 250) ∧ w.hysteresis ≤ 500 ∧ w.threshold ≤ 500

/-- n_good and n_bad lie in 1..15, and the window in its ranges. -/
def GoodSource.inRange : GoodSource → Prop
  | .analog _ w g b => w.inRange ∧ (1 ≤ g ∧ g ≤ 15) ∧ 1 ≤ b ∧ b ≤ 15
  | .digital _ _ g b => (1 ≤ g ∧ g ≤ 15) ∧ 1 ≤ b ∧ b ≤ 15
  | .timed => True

/-- The fields of a kind lie in their ranges. -/
def NodeBody.inRange : NodeBody → Prop
  | .rail g p w n => g.inRange ∧ p ≤ 15 ∧ w ≤ 255 ∧ n ≤ 3
  | .signal => True
  | .handshake _ _ g => 1 ≤ g ∧ g ≤ 15

/-- A record lies in the ranges of the field table. -/
def NodeRecord.inRange (r : NodeRecord) : Prop :=
  (r.prereqs.Nodup ∧ r.prereqs.length ≤ 4) ∧ (1 ≤ r.ramp ∧ r.ramp ≤ 1000) ∧ r.settle ≤ 1000
    ∧ (1 ≤ r.discharge ∧ r.discharge ≤ 2000) ∧ r.body.inRange

/-- A line's record lies in the ranges of R109. -/
def LineRecord.inRange (r : LineRecord) : Prop :=
  r.debounce ≤ 255 ∧ (1 ≤ r.edgeCount ∧ r.edgeCount ≤ 15) ∧ (1 ≤ r.window ∧ r.window ≤ 2000) ∧ r.priority ≤ 7

/-- The settings lie in the ranges of R205. -/
def Settings.inRange (t : Settings) : Prop :=
  (1 ≤ t.budget ∧ t.budget ≤ 255) ∧ t.resumeDeadline ≤ 600 ∧ (1 ≤ t.holdTime ∧ t.holdTime ≤ 15)
    ∧ 10 ≤ t.sleepInterval ∧ t.sleepInterval ≤ 1000

/-- Every value of a working configuration lies in its range. -/
def WorkingConfig.inRange (cfg : WorkingConfig) : Prop :=
  (∀ i r, cfg.node i = some r → r.inRange) ∧ (∀ l, (cfg.line l).inRange) ∧ cfg.button.priority ≤ 7
    ∧ cfg.link.priority ≤ 7 ∧ cfg.settings.inRange

/-! ### The prerequisite graph (R35) -/

/-- One node lists another as a prerequisite. -/
def WorkingConfig.lists (cfg : WorkingConfig) (i p : Slot) : Prop := p ∈ cfg.prereqs i

/-- No node can reach itself by following prerequisites. -/
def WorkingConfig.acyclic (cfg : WorkingConfig) : Prop := ∀ i, ¬ Relation.TransGen cfg.lists i i

/-! ### The prerequisite law (R53) and what keeps it -/

/-- R53: in RAMPING, SETTLING or GOOD, and as a PENDING off member, every prerequisite is GOOD. -/
def PrereqLaw (s : State) : Prop :=
  ∀ i, ((s.board.stateOf i).level = true) → ∀ p ∈ s.cfg.prereqs i, (s.board.stateOf p).isGood = true

/-- The node states in which nothing waits and nothing rises. -/
def NodeState.isQuiet : NodeState → Bool
  | .off | .good | .stopping | .discharging | .faulted _ => true
  | .pending _ | .queued | .ramping | .settling => false

/-- Every prerequisite of a slot is GOOD. -/
def mayRise (s : State) (i : Slot) : Prop := ∀ p ∈ s.cfg.prereqs i, (s.board.stateOf p).isGood = true

/-- Every dependent of a slot has its output at the off level. -/
def mayFall (s : State) (i : Slot) : Prop := ∀ d, i ∈ s.cfg.prereqs d → (s.board.stateOf d).level = false

/-- A slot has no part in a transition: no member, not level-blocked, no start level. -/
def Node.isUnplanned (n : Node) : Prop := n.member = none ∧ n.levelBlocked = false ∧ n.startLevel = false

/-- IDLE: nothing waits, rises or is listed, and no plan stands. -/
def IdleOrder (s : State) : Prop :=
  s.board.issue = [] ∧ s.board.stack = []
    ∧ ∀ i, (s.board.stateOf i).isQuiet = true ∧ (s.board.node i).failure = false ∧ (s.board.node i).isUnplanned

/-- DRAINING: besides, nothing is on. -/
def DrainingOrder (s : State) : Prop := IdleOrder s ∧ ∀ i, (s.board.stateOf i).level = false

/-- LOWERING: nothing rises; a PENDING node is a member at its start level; what is listed are off actions of members
whose dependents are off (R12, R13). -/
def LoweringOrder (s : State) : Prop :=
  (∀ i, (s.board.node i).failure = false ∧ ((s.board.stateOf i).isQuiet = true
    ∨ ∃ on, s.board.stateOf i = .pending on ∧ (s.board.node i).member = some (!on)))
  ∧ ∀ a ∈ s.board.issue, a.act = .off ∧ (s.board.node a.slot).member = some false ∧ mayFall s a.slot

/-- RAISING: off members are down; what waits or rises, or discharges for another attempt, is an on member; what is
listed are on actions of members whose prerequisites are GOOD (R15, R16, R67). -/
def RaisingOrder (s : State) : Prop :=
  (∀ i, s.board.stateOf i ≠ .pending true
    ∧ ((s.board.node i).member = some false → (s.board.stateOf i).isDown = true)
    ∧ (((s.board.stateOf i).isQuiet = false ∨ (s.board.node i).failure = true) → (s.board.node i).member = some true))
  ∧ ∀ a ∈ s.board.issue, a.act = .on ∧ (s.board.node a.slot).member = some true
    ∧ (s.board.stateOf a.slot = .pending false → mayRise s a.slot)

/-- REVERSING: at most one undo is listed, of the one PENDING node, and nothing rises beside it (R135 to R137). -/
def ReversingOrder (s : State) : Prop :=
  (∀ i on, s.board.stateOf i = .pending on → s.board.issue = [⟨i, if on then .undoOff else .undoOn⟩])
  ∧ s.board.issue.length ≤ 1
  ∧ ∀ a ∈ s.board.issue, (∀ j, (s.board.node j).failure = false
      ∧ ((s.board.stateOf j).isQuiet = true ∨ ∃ on, s.board.stateOf j = .pending on))
    ∧ ((a.act = .undoOn ∧ (s.board.stateOf a.slot = .pending false → mayRise s a.slot))
      ∨ (a.act = .undoOff ∧ mayFall s a.slot))

/-- The prerequisite law with what each phase says of waiting and rising nodes: a QUEUED node's prerequisites are GOOD
(R67, R87), a failure mark stands in DISCHARGING alone (R69), a NONE slot is OFF with no part in a transition (R30), and
a change set that was empty at the start has no member (R21). -/
def OrderInv (s : State) : Prop :=
  PrereqLaw s
  ∧ (∀ i, s.board.stateOf i = .queued → mayRise s i)
  ∧ (∀ i, (s.board.node i).failure = true → s.board.stateOf i = .discharging)
  ∧ (∀ i, s.cfg.node i = none → s.board.stateOf i = .off ∧ (s.board.node i).isUnplanned)
  ∧ (∀ a ∈ s.board.stack, s.cfg.node a.slot ≠ none)
  ∧ (s.board.emptyChange = true → ∀ i, (s.board.node i).member = none)
  ∧ match s.board.phase with
    | .idle => IdleOrder s
    | .draining => DrainingOrder s
    | .lowering => LoweringOrder s
    | .raising => RaisingOrder s
    | .reversing => ReversingOrder s

/-! ### The budget law (R79) and what keeps it -/

/-- R79: the weights of the rails in RAMPING never exceed the budget, but for one oversized rail alone. -/
def BudgetLaw (s : State) : Prop :=
  ((s.board.rampingRails s.cfg).map s.cfg.weight).sum ≤ s.cfg.settings.budget
    ∨ (s.board.rampingRails s.cfg).length = 1

/-- The budget law, and each rail in RAMPING charged with its weight (R78). -/
def BudgetInv (s : State) : Prop :=
  BudgetLaw s ∧ ∀ i ∈ s.board.rampingRails s.cfg, (s.board.node i).charge = s.cfg.weight i

end Sys2Proof.Machine
end

