-- ==== Sys2Proof/WellFormed.lean ====
section
/-! DEFINITION. Which commands are well formed: those whose data bytes are what their row of the table says. -/

namespace Sys2Proof

/-- A frame's verdict is one that INVALID_REQUEST reports: answered FRAME or TYPE (R191). -/
def FrameVerdict.isRefusal : FrameVerdict → Bool
  | .badFrame | .badType => true
  | .probe | .ignored | .request _ _ => false

/-- A good request frame is followed by bytes beyond LEN, which R190 refuses one by one. -/
def hasSurplus (bytes : List Byte) : Bool :=
  match frameVerdict bytes with
  | .request _ p => decide (p.length + 2 < bytes.length)
  | .probe | .ignored | .badFrame | .badType => false

/-- The operands a command's row allows.
NODE_PUT carries at most 32 payload bytes (R190); INVALID_REQUEST carries a frame that R191 answers FRAME or TYPE, or
a good one with bytes beyond LEN, for which the table has no row of its own (entry 15);
IGNORED_WRITE carries at least the TYPE byte (R190). Every other operand may take every value of its type. -/
def Instr.wf : Instr → Bool
  | .nodePut payload => decide (payload.length ≤ maxLen)
  | .invalidRequest bytes => (frameVerdict bytes).isRefusal || hasSurplus bytes
  | .ignoredWrite bytes => !bytes.isEmpty
  | .status | .enter _ _ | .wake | .checkin | .hold _ | .proceed | .last | .nodeGet _ | .clearFault _
  | .readRail _ | .sourceGet _ | .sourcePut _ | .settingsGet | .settingsPut _ | .save | .busProbe _
  | .readTransaction _ | .partReset _ | .loadEvent _ | .saveEnd _ | .continuousRound _ | .sleepRoundBegin
  | .sleepRoundPass _ | .rampDeadlineExpiry _ | .settleTimeExpiry _ | .dischargeDeadlineExpiry _
  | .wakeLineChange _ _ | .wakeDebounceExpiry _ | .countWindowExpiry _ | .pwrbtnChange _
  | .buttonDebounceExpiry | .holdTimerExpiry | .segmentExpiry | .inputPinChange _ _ | .inputFilterExpiry _
  | .dwellExpiry | .watchdogWarn | .watchdogExpiry => true

end Sys2Proof
end

