-- ==== Sys2Proof/Certificates/Slice0/Obligations.lean ====
section
/-! DEFINITION. The statements about the Cindek 712 model. -/

section

open Sys2Proof Sys2Proof.Machine

/-! ### Steps and events -/

/-- A step with a command at the front of the queue is that command on the state with the queue's rest. With none
waiting a millisecond passes, unless an event is due: then time waits for that event's command. Both are the model's
choice, entry 1 of the assumption log. -/
def Obligations.StepRunsTheFrontCommand : Prop :=
  (∀ (c : Instr) (s : State), step { s with pending := c :: s.pending } = exec c s)
    ∧ ∀ s : State, s.pending = [] → step s = .next (if eventDue s then s else { s with now := s.now + 1 })

/-- Every command and every step answers a next state. That a command takes no time and leaves the commands behind it
waiting is the model's choice (entry 1 of the assumption log): in the spec time passes between events. -/
def Obligations.EveryCommandCompletesInNoTime : Prop :=
  (∀ (c : Instr) (s : State), ∃ t, exec c s = .next t ∧ t.pending = s.pending ∧ t.now = s.now)
    ∧ ∀ s : State, ∃ t, step s = .next t

/-- The end of an event that began in `s0` and whose own change has made `s`. The board becomes `finishBoard s0 s`;
the monitor takes the mode of platform and phase, with the converter and the next round of R91, R92 and R95; the
indicator meets its wanted pattern (R186, R187), ATTN_N its level (R196); the rest is as the event left it. The board:
the engine makes its changes one after another until none is called for (R57); then each level line that stands ACTIVE
and is armed now but was not before the event arrives again, once, the engine following (R117); then a rail that
entered DISCHARGING takes the unobserved mark when the mode at the end is SLEEP (R100); and the notices of the event
stand behind the older ones, each block's in its own order (R195). Where the event finds the engine IDLE and leaves it
so, and the command directly behind is an ENTER that passes R5, that ENTER may come before the claims of the event: the
engine then makes no change in it (R7, R120). The model's own: the counter `free` and the free order of several lines
and blocks (entries 4, 5) and of such an ENTER and a claim (entry 37), the bound of 4096 changes (entry 28), lines after
grants (entry 36), `passAt` (entry 17), an emergency off treated as R95 treats a start (entry 42), `listedNow`
(entry 21). -/
def Obligations.TheEndOfAnEvent : Prop :=
  (∀ s0 s : State, let b := finishBoard s0 s
    ∃ m, finish s0 s =
    { s with
      free := s.free + 1
      board := b
      monitor := m
      panel := s.panel.want (wantedPattern s.store.unconfigured b) s.now
      ledOn := (s.panel.want (wantedPattern s.store.unconfigured b) s.now).lit
      link := { s.link with attnLow := s.link.reply.isSome || !b.notices.isEmpty } }
    ∧ (m.mode = .continuous ↔ b.platform = .working ∨ b.phase ≠ .idle)
    ∧ (m.mode = s.monitor.mode → m = s.monitor)
    ∧ (s.monitor.mode = .continuous → m.mode = .sleep →
        m = ⟨.sleep, .unpowered, some (s.now + s.cfg.settings.sleepInterval), none⟩)
    ∧ (s.monitor.mode = .sleep → m.mode = .continuous → m = (match s.monitor.converter with
        | .ready => ⟨.continuous, .ready, some (s.now + 1), none⟩
        | .stabilizing t => ⟨.continuous, .stabilizing t, some t, none⟩
        | .unpowered =>
          if s.monitor.passAt = some s.now then ⟨.continuous, .ready, some (s.now + 1), none⟩
          else ⟨.continuous, .stabilizing (s.now + 2), some (s.now + 2), none⟩)))
  ∧ (∀ s0 s : State, ∃ settle : Board → Board,
      (settle = settleBoard s.env ∨ (settle = id ∧ s0.board.phase = .idle ∧ s.board.phase = .idle
        ∧ s.board.followOn = none ∧ ¬(s.board.recovery = true ∧ s.board.platform = .working)
        ∧ ¬(s.board.platform = .off ∧ s.board.counter = 3 ∧ s.board.lockout = .none)
        ∧ ∃ target dwell rest p, s.pending = .enter target dwell :: rest ∧ s.isReady ∧ s.store.saving = none
          ∧ s.store.unconfigured = false ∧ s.inputs.acokHigh = true ∧ platformOf target = some p
          ∧ s.board.platform.rank ≤ p.rank ∧ (dwell = 0 ∨ (s.board.platform = .working ∧ p = .doze))))
      ∧ let b := markDischarges s0.board (rearm s0 s settle 8 [] (settle s.board))
        finishBoard s0 s =
          { b with notices := orderNotices s.free s0.board.notices.length b.notices, listedNow := [] })
  ∧ (∀ (e : Env) (b : Board), settleBoard e b = settleFor e 4096 b ∧ settleFor e 0 b = b
      ∧ ∀ n, settleFor e (n + 1) b = match engineStep e b with
        | none => b
        | some t => settleFor e n t)
  ∧ (∀ (s0 s : State) (settle : Board → Board) (n : Nat) (done : List SourceId) (b : Board),
      let again := fun l : WakeLine => ((s.cfg.line l).mode = .levelHigh ∨ (s.cfg.line l).mode = .levelLow)
        ∧ (s.qual l).state = .active ∧ lineId l ∉ done
        ∧ armed s.env b (lineId l) = true ∧ armed s0.env s0.board (lineId l) = false
      rearm s0 s settle 0 done b = b
      ∧ ((∀ l, ¬ again l) → rearm s0 s settle (n + 1) done b = b)
      ∧ ((∃ l, again l) → ∃ l, again l ∧ rearm s0 s settle (n + 1) done b =
          rearm s0 s settle n (lineId l :: done) (settle (arrive s.env b (lineId l)))))
  ∧ (∀ before after : Board,
      markDischarges before after = { after with nodes := (markDischarges before after).nodes }
      ∧ ∀ i, (markDischarges before after).node i = { after.node i with
        unobserved := if after.stateOf i = .discharging ∧ before.stateOf i ≠ .discharging
          then after.phase = .idle ∧ after.platform ≠ .working else (after.node i).unobserved = true })
  ∧ ∀ (free n : Nat) (q : List NoticeEntry),
      let block := fun x : NoticeEntry => match x.notice.kind with
        | .done | .held => 0
        | .fault | .acfail => 1
        | .button => 2
        | .warn => 3
        | .store => 4
      (orderNotices free n q).take n = q.take n ∧ (orderNotices free n q).Perm q
      ∧ ∀ k : Nat, (orderNotices free n q).filter (fun x => block x = k) = q.filter (fun x => block x = k)

/-! ### The message link -/

/-- Every request's frame, written out by Table 11-1 and R199, is read back as that request (R190, R191). -/
def Obligations.RequestFramesReadBack : Prop :=
  ∀ (c : Instr) (f : List Byte) (address : BitVec 7),
    c.wf = true → requestFrame c = some f → commandOfWrite f address = some c

/-- Writes that take no request change nothing but the acknowledge bits: before the load event nobody answers; with a
reply in the slot every byte from TYPE on is refused; a LEN above 32 is refused with every byte after it; and a write
with no data byte is acknowledged at the part's own address alone (R189, R190). That a NODE_PUT command of more than 32
payload bytes is such a write with a LEN above 32, whatever its length, is the model's reading (entry 14). A request
followed by bytes beyond LEN runs as it stands and those bytes are refused (R190); that INVALID_REQUEST carries such a
write is the model's choice (entry 15). -/
def Obligations.UntakenWritesChangeNothing : Prop :=
  (∀ (c : Instr) (f : List Byte) (s : State),
    (requestFrame c = some f ∨ c = .invalidRequest f ∨ c = .ignoredWrite f) →
    (s.isUp = false → exec c s = .next (s.putAcks [false]))
    ∧ (s.isUp = true → s.link.reply.isSome = true →
        exec c s = .next (s.putAcks (true :: List.replicate f.length false))))
  ∧ (∀ (s : State) (type len : Byte) (rest : List Byte), s.isReady → 32 < len.toNat →
    exec (.ignoredWrite (type :: len :: rest)) s =
      .next (s.putAcks (true :: true :: List.replicate (rest.length + 1) false)))
  ∧ (∀ (s : State) (p : List Byte), s.isReady → 32 < p.length →
    exec (.nodePut p) s = .next (s.putAcks (true :: true :: List.replicate (p.length + 1) false)))
  ∧ (∀ (s : State) (c : Instr) (f surplus : List Byte), s.isReady → c.wf = true → requestFrame c = some f →
    ∃ t, exec c s = .next t ∧ exec (.invalidRequest (f ++ surplus)) s =
      .next (t.putAcks (List.replicate (f.length + 1) true ++ List.replicate surplus.length false)))
  ∧ ∀ (s : State) (address : BitVec 7), exec (.busProbe address) s =
      .next (s.putAcks [s.isUp && address == if s.link.addrHigh then 0x3B else 0x3A])

/-- A taken frame that fails a check of R191 is answered FRAME (0x18) or TYPE (0x19) with the status byte alone, and
changes nothing but the reply slot; bytes beyond LEN are refused (R190). -/
def Obligations.FaultyFramesAreAnswered : Prop :=
  ∀ (s : State) (type : Byte), s.isReady →
    exec (.invalidRequest [type]) s = .next (s.putReply [true, true] (refusal type.toNat 0x18))
    ∧ ∀ (len : Byte) (rest : List Byte), len.toNat ≤ 32 →
      (rest.length < len.toNat → exec (.invalidRequest (type :: len :: rest)) s =
        .next (s.putReply (List.replicate (rest.length + 3) true) (refusal type.toNat 0x18)))
      ∧ (len.toNat ≤ rest.length → requestLen type = none → exec (.invalidRequest (type :: len :: rest)) s =
        .next (s.putReply (List.replicate (len.toNat + 3) true ++ List.replicate (rest.length - len.toNat) false)
          (refusal type.toNat 0x19)))
      ∧ (∀ n, len.toNat ≤ rest.length → requestLen type = some (.exactly n) → len.toNat ≠ n →
        exec (.invalidRequest (type :: len :: rest)) s =
        .next (s.putReply (List.replicate (len.toNat + 3) true ++ List.replicate (rest.length - len.toNat) false)
          (refusal type.toNat 0x18)))

/-- A read begins with a copy of the reply, else of the oldest notice with its merge count, else of the empty frame
(R193). Its end removes the frame when every byte was clocked out, unless the notice was merged meanwhile; a frame
read in part stays; bytes past the frame are 0xFF (R193, R194). Before the load event the address is not acknowledged
(R189). A notice's fields stand in the order its rule lists them, encoded by R199 with the codes of Table 11-8. That a
read is commanded whole or as begin and end, and that a begin with a read open takes a new copy, is the model's choice
(entry 13). -/
def Obligations.ReadTransactions : Prop :=
  (∀ s : State, s.isUp = true →
    (∀ f, s.link.reply = some f → exec (.readTransaction .first) s =
      .next { s with link := { s.link with read := some ⟨.reply, f⟩, acks := [true], sent := [] } })
    ∧ (s.link.reply = none → s.board.notices = [] → exec (.readTransaction .first) s =
      .next { s with link := { s.link with read := some ⟨.empty, [0, 0]⟩, acks := [true], sent := [] } })
    ∧ (∀ x l, s.link.reply = none → s.board.notices = x :: l →
      (∀ y ∈ l, y.notice.kind ≠ x.notice.kind) → exec (.readTransaction .first) s =
      .next { s with
        board := { s.board with notices := { x with merged := false } :: l }
        link := { s.link with
          read := some ⟨.notice x.notice.kind, byte1 x.notice.kind.type :: byte1 (1 + (noticeFields x.notice).length)
            :: byte1 x.count :: noticeFields x.notice⟩
          acks := [true], sent := [] } })
    ∧ ∀ n, ∃ t, exec (.readTransaction .first) s = .next t
      ∧ exec (.readTransaction (.whole n)) s = exec (.readTransaction (.last n)) t)
  ∧ (∀ (s : State) (op : ReadOp), s.isUp = false → exec (.readTransaction op) s = .next (s.putAcks [false]))
  ∧ (∀ (s : State) (r : OpenRead) (n : Nat), s.isUp = true → s.link.read = some r →
    ∃ t, exec (.readTransaction (.last n)) s = .next t
      ∧ t = { s with board := { s.board with notices := t.board.notices }, link := t.link }
      ∧ t.link = { s.link with
          reply := t.link.reply, read := none, sent := r.frame.take n ++ List.replicate (n - r.frame.length) 0xFF
          attnLow := t.link.reply.isSome || !t.board.notices.isEmpty }
      ∧ (n < r.frame.length → t.board.notices = s.board.notices ∧ t.link.reply = s.link.reply)
      ∧ (r.frame.length ≤ n →
        match r.source with
        | .reply => t.board.notices = s.board.notices ∧ t.link.reply = none
        | .empty => t.board.notices = s.board.notices ∧ t.link.reply = s.link.reply
        | .notice k => t.link.reply = s.link.reply
            ∧ t.board.notices = s.board.notices.filter (fun x => x.notice.kind != k || x.merged)))
  ∧ (∀ k : NoticeKind, k.type = match k with
      | .done => 0x41
      | .fault => 0x42
      | .button => 0x43
      | .warn => 0x44
      | .held => 0x45
      | .store => 0x46
      | .acfail => 0x47)
  ∧ (∀ n : Notice, let transition := fun t : Option Kind => match t with
      | none => (0xFF : Byte)
      | some k => byte1 k.code
    noticeFields n = match n with
    | .done r => [byte1 r.kind.code, byte1 r.source.code, byte1 r.target.code, optByte (r.reached.map Platform.code),
        optByte (r.origin.map Origin.code), optByte (r.outcome.map Ended.code), optByte (r.wake.map Fin.val),
        optByte (r.fault.map (fun f => f.1.val)), optByte (r.fault.map (fun f => f.2.code)),
        optByte (r.cause.map Cause.code), byte1 r.absorbed.length, byte1 r.duration, byte1 (r.duration / 256)]
    | .fault slot kind sample phase t c => [byte1 slot.val, byte1 kind.code]
        ++ (match sample with
          | none => [0, 0, 0]
          | some mv => [1, byte1 mv, byte1 (mv / 256)])
        ++ [byte1 phase.code, transition t, byte1 c.code]
    | .button length phase t => [byte1 length, byte1 (length / 256), byte1 phase.code, transition t]
    | .warn remaining counter kind outcome => [byte1 remaining, byte1 (remaining / 256), byte1 (remaining / 65536),
        byte1 (remaining / 16777216), byte1 counter, byte1 kind.code, byte1 outcome.code]
    | .held slot act => [byte1 slot.val, byte1 act.code]
    | .store op result => [byte1 op.code, byte1 result.code]
    | .acfail platform phase begins => [byte1 platform.code, byte1 phase.code, if begins then 1 else 0])
  ∧ (∀ o : Option Nat, optByte o = match o with
      | none => 0xFF
      | some n => byte1 n)
  ∧ [Platform.working, .doze, .hibernate, .off].map Platform.code = [0, 1, 2, 3]
  ∧ [Phase.idle, .lowering, .raising, .reversing, .draining].map Phase.code = [0, 1, 2, 3, 4]
  ∧ [Kind.up, .dozeOut, .dozeIn, .down, .drop, .relevel].map Kind.code = [0, 1, 2, 3, 4, 5]
  ∧ [Origin.request, .wake, .chain, .recovery, .acRestore, .start].map Origin.code = [0, 1, 2, 3, 4, 5]
  ∧ [Ended.completed, .reversed, .unwound, .emergency].map Ended.code = [0, 1, 2, 3]
  ∧ [Cause.longPress, .thermal, .acfail, .critical].map Cause.code = [0, 1, 2, 3]
  ∧ [FaultKind.ramp, .overvolt, .dropout, .discharge, .handshake, .blocked].map FaultKind.code = [0, 1, 2, 3, 4, 5]
  ∧ [Consequence.none, .unwind, .emergency].map Consequence.code = [0, 1, 2]
  ∧ [ActKind.on, .off, .undoOn, .undoOff].map ActKind.code = [0, 1, 2, 3]
  ∧ [StoreOp.load, .save].map StoreOp.code = [0, 1]
  ∧ [StoreResult.ok, .noMarker, .badCrc, .verify].map StoreResult.code = [0, 1, 2, 3]

/-- Posting opens an entry of a new kind at the end, and replaces the payload of a kind already queued in its place,
counting up to 255 (R195). -/
def Obligations.PostingMergesByKind : Prop :=
  ∀ (q : List NoticeEntry) (n : Notice),
    ((∀ x ∈ q, x.notice.kind ≠ n.kind) → postInto q n = q ++ [⟨n, 1, false⟩])
    ∧ ∀ l x r, q = l ++ x :: r → x.notice.kind = n.kind → (∀ y ∈ l ++ r, y.notice.kind ≠ n.kind) →
      postInto q n = l ++ ⟨n, min 255 (x.count + 1), true⟩ :: r

/-! ### Requests that only read -/

/-- STATUS is answered with Table 11-5 and changes nothing else (R198). The out-of-level count is the number of nodes,
NONE and FAULTED excluded, whose actual level differs from their required level in the platform state (R51, R34). -/
def Obligations.StatusTellsTheState : Prop :=
  (∀ s : State, s.isReady → exec .status s = .next (s.withReply 2
    ([0x81, byte1 (12 + s.board.wakes.length), 0x00, byte1 s.board.platform.code, byte1 s.board.phase.code,
      if s.board.stepHold then if s.board.held then 2 else 1 else 0,
      match s.board.record with
      | none => 0xFF
      | some r => byte1 r.kind.code,
      byte1 s.board.lockout.code, if s.store.unconfigured then 1 else 0, byte1 s.board.counter,
      byte1 (outOfLevel s.cfg s.board), if s.inputs.acokHigh then 1 else 0, if s.inputs.hotshutActive then 1 else 0,
      byte1 s.board.wakes.length] ++ s.board.wakes.map (fun id => byte1 id.val))))
  ∧ (∀ (cfg : WorkingConfig) (b : Board), outOfLevel cfg b = ((List.finRange 20).filter (fun i =>
      match cfg.node i with
      | none => false
      | some r =>
        let required : Bool := match b.platform with
          | .working => r.levels.working
          | .doze => r.levels.doze
          | .hibernate => r.levels.hibernate
          | .off => r.levels.off
        match b.stateOf i with
        | .faulted _ => false
        | .ramping | .settling | .good => !required
        | .off | .queued | .stopping | .discharging => required
        | .pending on => on != required)).length)
  ∧ [Platform.working, .doze, .hibernate, .off].map Platform.code = [0, 1, 2, 3]
  ∧ [Phase.idle, .lowering, .raising, .reversing, .draining].map Phase.code = [0, 1, 2, 3, 4]
  ∧ [Kind.up, .dozeOut, .dozeIn, .down, .drop, .relevel].map Kind.code = [0, 1, 2, 3, 4, 5]
  ∧ [Lockout.none, .resume, .thermal].map Lockout.code = [0, 1, 2]

/-- LAST is refused STATE before any transition has ended; then it tells the last record in the order of Table 11-6,
the absorbed sources in full, and changes nothing else (R25, R199). -/
def Obligations.LastTellsTheLastRecord : Prop :=
  ∀ s : State, s.isReady →
    (s.board.last = none → exec .last s = .next (s.withReply 2 (refusal 0x07 0x11)))
    ∧ ∀ r, s.board.last = some r → exec .last s = .next (s.withReply 2
      ([0x87, byte1 (14 + r.absorbed.length), 0x00, byte1 r.kind.code, byte1 r.source.code, byte1 r.target.code,
        optByte (r.reached.map Platform.code), optByte (r.origin.map Origin.code), optByte (r.outcome.map Ended.code),
        optByte (r.wake.map Fin.val), optByte (r.fault.map (fun f => f.1.val)),
        optByte (r.fault.map (fun f => f.2.code)), optByte (r.cause.map Cause.code), byte1 r.absorbed.length,
        byte1 r.duration, byte1 (r.duration / 256)] ++ r.absorbed.map (fun id => byte1 id.val)))

/-- NODE_GET is refused RANGE above slot 19; else it tells the record and the live state, a sample only for an ANALOG
source. READ_RAIL is refused RANGE above slot 19, for a node that is no RAIL with an ANALOG source, and for every slot
while UNCONFIGURED holds (of a slot that a NODE_PUT has filled meanwhile this is the model's reading, entry 40); else
it tells sample, class, flag and node state as held. Neither changes anything else (R49, R107, R200). A record's bytes
stand in the layout of Table 11-7, a field the kind does not hold as 0, and the codes are those of Table 11-8. -/
def Obligations.SlotReadsTellTheSlot : Prop :=
  (∀ (s : State) (slot : Byte), s.isReady →
    (20 ≤ slot.toNat → exec (.nodeGet slot) s = .next (s.withReply 3 (refusal 0x10 0x12)))
    ∧ ∀ i : Slot, slot.toNat = i.val → exec (.nodeGet slot) s = .next (s.withReply 3
      (([0x90, byte1 (7 + (recordBytes i (s.cfg.node i)).length), 0x00] : List Byte) ++ recordBytes i (s.cfg.node i)
        ++ [byte1 (s.board.stateOf i).code,
          match s.board.stateOf i with
          | .faulted k => byte1 k.code
          | _ => 0xFF,
          byte1 (s.board.node i).retriesLeft]
        ++ (match s.cfg.node i, (s.board.node i).lastSample with
          | some r, some mv => if r.body.isAnalog then [1, byte1 mv, byte1 (mv / 256)] else [0, 0, 0]
          | _, _ => [0, 0, 0] : List Byte))))
  ∧ (∀ (s : State) (slot : Byte), s.isReady →
    (20 ≤ slot.toNat → exec (.readRail slot) s = .next (s.withReply 3 (refusal 0x13 0x12)))
    ∧ ∀ i : Slot, slot.toNat = i.val →
      ((s.store.unconfigured = true ∨ ∀ r, s.cfg.node i = some r → r.body.isAnalog = false) →
        exec (.readRail slot) s = .next (s.withReply 3 (refusal 0x13 0x12)))
      ∧ ∀ r, s.store.unconfigured = false → s.cfg.node i = some r → r.body.isAnalog = true → exec (.readRail slot) s = .next (s.withReply 3
        (([0x93, 8, 0x00] : List Byte)
          ++ (match (s.board.node i).lastSample with
            | none => [0, 0, 0]
            | some mv => [1, byte1 mv, byte1 (mv / 256)])
          ++ [byte1 (s.board.node i).lastClass.code, if (s.board.node i).saturated then 1 else 0,
            byte1 (s.board.stateOf i).code,
            match s.board.stateOf i with
            | .faulted k => byte1 k.code
            | _ => 0xFF])))
  ∧ (∀ i : Slot, recordBytes i none = byte1 i.val :: List.replicate 21 0)
  ∧ (∀ (i : Slot) (r : NodeRecord),
    let bit := fun (set : Bool) (value : Nat) => if set then value else 0
    let two := fun n : Nat => [byte1 n, byte1 (n / 256)]
    recordBytes i (some r) =
      [byte1 i.val, match r.body with
        | .rail .. => 1
        | .signal => 2
        | .handshake .. => 3]
      ++ [match r.body with
          | .rail (.digital ..) _ _ _ => 1
          | .rail .timed _ _ _ => 2
          | _ => 0,
        byte1 r.output.val,
        match r.body with
          | .rail (.analog c _ _ _) _ _ _ => byte1 c.val
          | .rail (.digital d _ _ _) _ _ _ => byte1 d.val
          | .handshake a _ _ => byte1 a.val
          | _ => 0,
        byte1 (bit (r.polarity == .high) 1 + match r.body with
          | .rail (.digital _ pol _ _) _ _ _ => bit (pol == .high) 2
          | .handshake _ pol _ => bit (pol == .high) 2
          | _ => 0),
        byte1 (bit r.levels.working 1 + bit r.levels.doze 2 + bit r.levels.hibernate 4 + bit r.levels.off 8),
        byte1 (bit (r.severity == .critical) 1 + bit r.irreversible 2)]
      ++ (r.prereqs.map (fun q : Slot => byte1 q.val) ++ [0xFF, 0xFF, 0xFF, 0xFF]).take 4
      ++ (match r.body with
        | .rail _ priority weight retries => [byte1 (priority + 16 * retries), byte1 weight]
        | _ => [0, 0])
      ++ two r.ramp ++ two r.settle ++ two r.discharge
      ++ [match r.body with
          | .rail (.analog _ _ g b) _ _ _ => byte1 (g + 16 * b)
          | .rail (.digital _ _ g b) _ _ _ => byte1 (g + 16 * b)
          | .handshake _ _ g => byte1 g
          | _ => 0, 0]
      ++ match r.body with
        | .rail (.analog _ w _ _) _ _ _ => two w.nominal ++ two w.scale ++ [byte1 w.underTol, byte1 w.overTol]
            ++ two w.hysteresis ++ two w.threshold
        | _ => [])
  ∧ [NodeState.off, .pending false, .pending true, .queued, .ramping, .settling, .good, .stopping, .discharging].map
      NodeState.code = [0, 1, 1, 2, 3, 4, 5, 6, 7] ∧ (∀ k, (NodeState.faulted k).code = 8)
  ∧ [FaultKind.ramp, .overvolt, .dropout, .discharge, .handshake, .blocked].map FaultKind.code = [0, 1, 2, 3, 4, 5]
  ∧ [SampleClass.none, .inBand, .underBand, .overBand, .ok, .badLow, .badHigh, .discharged, .notDischarged].map
      SampleClass.code = [0, 1, 2, 3, 4, 5, 6, 7, 8]

/-- SOURCE_GET is refused RANGE above id 9; else it tells the record with 0 for a field not held, a line's qualifier
state and tally, and the place on the pending wake list, and changes nothing else (R126, codes of Table 11-8). The two
qualifier bytes of BUTTON and LINK and the place of a source not on the list are 0xFF by entry 27 of the assumption
log. -/
def Obligations.SourceGetTellsTheSource : Prop :=
  (∀ (s : State) (id : Byte), s.isReady →
    (10 ≤ id.toNat → exec (.sourceGet id) s = .next (s.withReply 3 (refusal 0x18 0x12)))
    ∧ (∀ k : SourceId, id.toNat = k.val → ∃ fields,
      exec (.sourceGet id) s = .next (s.withReply 3 (([0x98, 13, 0x00] : List Byte) ++ fields
        ++ if k ∈ s.board.wakes then [1, byte1 (s.board.wakes.idxOf k)] else [0, 0xFF]))
      ∧ (∀ l : WakeLine, lineId l = k → fields =
        [byte1 (s.cfg.line l).mode.code, byte1 (s.cfg.line l).debounce, byte1 (s.cfg.line l).edgeCount,
          byte1 (s.cfg.line l).window, byte1 ((s.cfg.line l).window / 256), armedByte (s.cfg.line l).armed,
          byte1 (s.cfg.line l).priority, byte1 (s.cfg.line l).policy.code, byte1 (s.qual l).state.code,
          byte1 (s.qual l).tally])
      ∧ (k = 8 → fields = [0, 0, 0, 0, 0, 0, byte1 s.cfg.button.priority, byte1 s.cfg.button.policy.code, 0xFF, 0xFF])
      ∧ (k = 9 → fields = [0, 0, 0, 0, 0, armedByte s.cfg.link.armed, byte1 s.cfg.link.priority,
          byte1 s.cfg.link.policy.code, 0xFF, 0xFF])))
  ∧ (∀ a : Armed, armedByte a =
      byte1 ((if a.doze then 1 else 0) + (if a.hibernate then 2 else 0) + (if a.off then 4 else 0)))
  ∧ [WakeMode.levelHigh, .levelLow, .rising, .falling].map WakeMode.code = [0, 1, 2, 3]
  ∧ [Policy.reverse, .defer].map Policy.code = [0, 1]
  ∧ [QualState.idle, .debouncing, .active, .counting].map QualState.code = [0, 1, 2, 3]

/-- SETTINGS_GET tells the six settings and changes nothing else; SETTINGS_PUT is refused BUSY in a transition or a
SAVE and RANGE for a code outside its list, and else replaces the whole record with each number at the nearer end of
its range, CLAMPED when one was cut; what a new AC policy lets start follows at the same event (R205). -/
def Obligations.SettingsAreReadAndReplaced : Prop :=
  (∀ s : State, s.isReady →
    exec .settingsGet s = .next (s.withReply 2
      [0x9C, 9, 0x00, byte1 s.cfg.settings.budget, byte1 s.cfg.settings.mode.code,
        byte1 s.cfg.settings.resumeDeadline, byte1 (s.cfg.settings.resumeDeadline / 256),
        byte1 s.cfg.settings.holdTime, byte1 s.cfg.settings.sleepInterval, byte1 (s.cfg.settings.sleepInterval / 256),
        byte1 s.cfg.settings.acPolicy.code])
    ∧ ∀ p : SettingsPayload, exec (.settingsPut p) s =
      if s.board.phase.inTransition || s.store.saving.isSome then .next (s.withReply 10 (refusal 0x1D 0x10))
      else if 1 < p.mode.toNat ∨ 1 < p.acPolicy.toNat then .next (s.withReply 10 (refusal 0x1D 0x12))
      else
        let sent : Settings := ⟨p.budget.toNat, if p.mode = 0 then .fixed else .rotating, p.resumeDeadline.toNat,
          p.holdTime.toNat, p.sleepInterval.toNat, if p.acPolicy = 0 then .stayOff else .powerOn⟩
        let held : Settings := { sent with
          budget := max 1 sent.budget
          resumeDeadline := min 600 sent.resumeDeadline
          holdTime := max 1 (min 15 sent.holdTime)
          sleepInterval := max 10 (min 1000 sent.sleepInterval) }
        .next (finish s ({ s with cfg := { s.cfg with settings := held } }.withReply 10
          [0x9D, 1, if held = sent then 0x00 else 0x02])))
  ∧ [ArbiterMode.fixed, .rotating].map ArbiterMode.code = [0, 1]
  ∧ [AcPolicy.stayOff, .powerOn].map AcPolicy.code = [0, 1]

/-! ### Requests that act -/

/-- CHECKIN is always answered OK. It disarms an ARMED watchdog and sets the resume failure counter to 0, and changes
nothing else; with the watchdog DISARMED it changes nothing. The warning and the expiry do not happen after it (R175).
-/
def Obligations.CheckinDisarmsTheWatchdog : Prop :=
  ∀ s : State, s.isReady → ∃ t, exec .checkin s = .next t
    ∧ (s.board.watchdog = .disarmed → t = s.withReply 2 [0x84, 1, 0x00])
    ∧ (s.board.watchdog ≠ .disarmed →
        t = { s with board := { s.board with watchdog := .disarmed, counter := 0 } }.withReply 2 [0x84, 1, 0x00])
    ∧ exec .watchdogWarn t = .next t ∧ exec .watchdogExpiry t = .next t

/-- HOLD on sets the flag alone; a field but 0 and 1 is refused RANGE; HOLD off clears the flag, and what was held is
released at the same event (R26). PROCEED with no action held is refused STATE; else it issues the head of the issue
list alone, before anything that follows from it (R27). -/
def Obligations.HoldAndProceed : Prop :=
  ∀ s : State, s.isReady →
    exec (.hold 1) s = .next ({ s with board := { s.board with stepHold := true } }.withReply 3 [0x85, 1, 0x00])
    ∧ (∀ field : Byte, 1 < field.toNat → exec (.hold field) s = .next (s.withReply 3 (refusal 0x05 0x12)))
    ∧ (∃ t, exec (.hold 0) s = .next t
      ∧ t = finish s ({ s with board := { s.board with stepHold := false, held := false } }.withReply 3 [0x85, 1, 0x00])
      ∧ t.board.stepHold = false ∧ t.board.held = false ∧ t.link.reply = some [0x85, 1, 0x00])
    ∧ (s.board.held = false → exec .proceed s = .next (s.withReply 2 (refusal 0x06 0x11)))
    ∧ ∀ a rest, s.board.held = true → s.board.issue = a :: rest →
      exec .proceed s = .next (finish s ({ s with
        board := issueAction s.env { s.board with issue := rest, held := false } a }.withReply 2 [0x86, 1, 0x00]))

/-- Issuing an action moves its node by kind: a RAIL on action queues it, a SIGNAL settles, a HANDSHAKE ramps, an off
action starts the discharge or off hold; the stack gets the entry except for the queued rail; an off action to an
irreversible node clears the reversibility mark (R14, R55, R56, R130, R131). Nothing else of the board moves. -/
def Obligations.IssuedActionsMoveTheirNodes : Prop :=
  ∀ (e : Env) (b : Board) (i : Slot) (act : ActKind) (r : NodeRecord),
    e.cfg.node i = some r →
    ∃ nodes outs stack reversible inUse, issueAction e b ⟨i, act⟩ =
        { b with nodes := nodes, outs := outs, stack := stack, reversible := reversible, inUse := inUse }
      ∧ (∀ j, j ≠ i → nodes.get j = b.node j) ∧ (∀ o, o ≠ r.output → outs.get o = b.outs.get o)
      ∧ reversible = (b.reversible && !(act == .off && r.irreversible))
      ∧ (b.stateOf i ≠ .ramping → inUse = b.inUse)
      ∧ ((act = .on ∨ act = .undoOn) → b.stateOf i = .pending false →
        match r.body with
        | .rail .. => (nodes.get i).state = .queued ∧ stack = b.stack
        | .signal => (nodes.get i).state = (if r.settle = 0 then .good else .settling)
            ∧ (r.settle ≠ 0 → (nodes.get i).deadline = some ⟨.settle, e.now + r.settle⟩)
            ∧ outs.get r.output = .driven r.polarity ∧ stack = ⟨i, act⟩ :: b.stack.filter (fun a => a.slot ≠ i)
        | .handshake .. => (nodes.get i).state = .ramping ∧ (nodes.get i).deadline = some ⟨.ramp, e.now + r.ramp⟩
            ∧ outs.get r.output = .driven r.polarity ∧ stack = ⟨i, act⟩ :: b.stack.filter (fun a => a.slot ≠ i))
      ∧ ((act = .off ∨ act = .undoOff) → b.stateOf i = .pending true →
        (nodes.get i).state = (if r.body.isRail then .discharging else .stopping)
          ∧ (nodes.get i).deadline = some ⟨.discharge, e.now + r.discharge⟩
          ∧ (nodes.get i).ending = (if act = .off ∧ (b.node i).levelBlocked = true then .blocked else .off)
          ∧ outs.get r.output = .driven (flipLevel r.polarity)
          ∧ stack = ⟨i, act⟩ :: b.stack.filter (fun a => a.slot ≠ i))

/-- CLEAR_FAULT is refused RANGE above slot 19, BUSY in a transition and STATE for a node not FAULTED; else the node
is OFF with its counters at 0, and no line and no other node changes (R50). -/
def Obligations.ClearFaultReturnsANodeToOff : Prop :=
  ∀ (s : State) (slot : Byte), s.isReady →
    (20 ≤ slot.toNat → exec (.clearFault slot) s = .next (s.withReply 3 (refusal 0x12 0x12)))
    ∧ ∀ i : Slot, slot.toNat = i.val →
      (s.board.phase.inTransition = true → exec (.clearFault slot) s = .next (s.withReply 3 (refusal 0x12 0x10)))
      ∧ (s.board.phase.inTransition = false → (s.board.stateOf i).isFaulted = false →
        exec (.clearFault slot) s = .next (s.withReply 3 (refusal 0x12 0x11)))
      ∧ (s.board.phase.inTransition = false → (s.board.stateOf i).isFaulted = true → linesAgree s.cfg s.board →
        ∃ nodes, exec (.clearFault slot) s =
            .next ({ s with board := { s.board with nodes := nodes } }.withReply 3 [0x92, 1, 0x00])
          ∧ (∀ j, j ≠ i → nodes.get j = s.board.node j)
          ∧ (nodes.get i).state = .off ∧ (nodes.get i).retriesLeft = (s.board.node i).retriesLeft
          ∧ (nodes.get i).lastSample = (s.board.node i).lastSample
          ∧ (nodes.get i).inCount = 0 ∧ (nodes.get i).overCount = 0 ∧ (nodes.get i).badCount = 0
          ∧ (nodes.get i).offCount = 0 ∧ (nodes.get i).deadline = none)

/-- SAVE is refused BUSY outside IDLE and while one runs; else it takes the working configuration as it stands and
erases the stored image. Its end writes the image or leaves it invalid, ends UNCONFIGURED when it reads back, and
posts STORE with OK or VERIFY (R204, R206). The model's own choices: SAVE_END carries whether the image reads back and
may come at any time from the SAVE's start on (entry 11), with no SAVE running it changes nothing (entry 2), and an
image that is erased, being written or not verified is held as torn (entry 12). -/
def Obligations.SaveTakesAndWritesTheConfiguration : Prop :=
  ∀ s : State,
    (s.isReady → (s.board.phase ≠ .idle ∨ s.store.saving.isSome = true) →
      exec .save s = .next (s.withReply 2 (refusal 0x1E 0x10)))
    ∧ (s.isReady → s.board.phase = .idle → s.store.saving = none →
      exec .save s = .next ({ s with store := ⟨.torn, some ⟨s.now, s.cfg⟩, s.store.unconfigured⟩ }.withReply 2
        [0x9E, 1, 0x01]))
    ∧ ∀ ok, (s.store.saving = none → exec (.saveEnd ok) s = .next s)
      ∧ ∀ job, s.store.saving = some job → job.startedAt ≤ s.now → exec (.saveEnd ok) s = .next (finish s { s with
        store := ⟨if ok then .bytes (encodeImage job.content) else .torn, none, s.store.unconfigured && !ok⟩
        board := s.board.post (.store .save (if ok then .ok else .verify)) })

/-- WAKE is refused BUSY outside IDLE and STATE in WORKING or with LINK unarmed; else it is ACCEPTED and LINK joins
the pending wake list, unless it is on it, before anything that follows (R125). -/
def Obligations.WakeIsALinkArrival : Prop :=
  ∀ s : State, s.isReady → exec .wake s =
    if s.board.phase ≠ .idle then .next (s.withReply 2 (refusal 0x03 0x10))
    else if s.board.platform = .working ∨ armed s.env s.board 9 = false then
      .next (s.withReply 2 (refusal 0x03 0x11))
    else .next (finish s ({ s with board := { s.board with
      wakes := if 9 ∈ s.board.wakes then s.board.wakes else s.board.wakes ++ [9] } }.withReply 2 [0x83, 1, 0x01]))

/-- ENTER meets its checks in order; the first that fails gives the reply and nothing else changes. One that passes
starts the transition of the table at once, ACCEPTED or, with a dwell cut to 1440, CLAMPED; its start leaves a lockout
as it is (R5, R6). -/
def Obligations.EnterChecksInOrderThenStarts : Prop :=
  ∀ (s : State) (target : Byte) (dwell : Half), s.isReady → exec (.enter target dwell) s =
    if s.board.phase ≠ .idle ∨ s.store.saving.isSome then .next (s.withReply 5 (refusal 0x02 0x10))
    else match (if target = 0 then some Platform.working else if target = 1 then some .doze
        else if target = 2 then some .hibernate else if target = 3 then some .off else none) with
    | none => .next (s.withReply 5 (refusal 0x02 0x12))
    | some p =>
      if s.store.unconfigured then .next (s.withReply 5 (refusal 0x02 0x11))
      else if s.inputs.acokHigh = false then .next (s.withReply 5 (refusal 0x02 0x11))
      else if p = .working ∧ s.board.platform ≠ .working then .next (s.withReply 5 (refusal 0x02 0x11))
      else if (p = .doze ∧ (s.board.platform = .hibernate ∨ s.board.platform = .off))
          ∨ (p = .hibernate ∧ s.board.platform = .off) then .next (s.withReply 5 (refusal 0x02 0x11))
      else if dwell ≠ 0 ∧ ¬(s.board.platform = .working ∧ p = .doze) then .next (s.withReply 5 (refusal 0x02 0x12))
      else
        let kind : Kind := if s.board.platform = p then .relevel
          else if s.board.platform = .working then if p = .doze then .dozeIn else .down
          else .drop
        let started := start s.env s.board kind p .request none
          (if dwell = 0 then none else if 1440 < dwell.toNat then some 1440 else some dwell.toNat)
        .next (finish s ({ s with board := { started with lockout := s.board.lockout } }.withReply 5
          [0x82, 1, if 1440 < dwell.toNat then 0x02 else 0x01]))

/-! ### The transition engine -/

/-- What the start of a transition sets: the record, the marks, the retries, the timers it disarms, and for each node
its start level, target, membership and PENDING (R9 to R12, R131, R132). A node has target on for a to-state exactly
when it is required on there and every prerequisite has target on; the correction runs down the graph (R10). An empty
change set is marked; the mark is the model's own (R21, entry 33). -/
def Obligations.StartPlansTheTransition : Prop :=
  (∀ (cfg : WorkingConfig) (p : Platform) (i : Slot),
    i ∈ cfg.targetsOn p ↔ cfg.required p i = true ∧ ∀ q ∈ cfg.prereqs i, q ∈ cfg.targetsOn p)
  ∧ ∀ (e : Env) (b : Board) (kind : Kind) (target : Platform) (origin : Origin) (wake : Option SourceId)
      (dwell : Option Nat),
    let t := start e b kind target origin wake dwell
    let resume : Bool := kind = .up ∨ kind = .dozeOut
    t.record = some ⟨kind, b.platform, target, none, some origin, none, wake, none, none, [], 0⟩
    ∧ t.startedAt = e.now ∧ t.phase = .lowering ∧ t.platform = b.platform ∧ t.issue = [] ∧ t.stack = []
    ∧ t.held = false ∧ t.stepHold = b.stepHold ∧ t.requestedDwell = dwell
    ∧ t.reversible = ((kind = .dozeIn ∨ kind = .down ∨ kind = .drop) ∧ origin ≠ .recovery : Bool)
    ∧ t.watchdog = (if b.platform = .working ∧ kind ≠ .relevel then .disarmed else b.watchdog)
    ∧ t.dwell = (if b.platform = .doze ∧ kind ≠ .relevel then .none else b.dwell)
    ∧ t.acRestore = (b.acRestore && kind != .up)
    ∧ t.wakes = b.wakes ∧ t.lockout = b.lockout ∧ t.counter = b.counter ∧ t.notices = b.notices ∧ t.last = b.last
    ∧ t.recovery = b.recovery ∧ t.pointer = b.pointer
    ∧ (t.emptyChange = true ↔ ∀ i, (t.node i).member = none)
    ∧ ∀ i r, e.cfg.node i = some r →
      let before := if resume && (b.stateOf i).isFaulted then NodeState.off else b.stateOf i
      let on : Bool := i ∈ e.cfg.targetsOn target
      let member : Option Bool := if before.isFaulted || before.level == on then none else some on
      (t.node i).retriesLeft = r.body.retries ∧ (t.node i).startLevel = before.level ∧ (t.node i).target = on
      ∧ (t.node i).levelBlocked = (r.levels.at target && !on) ∧ (t.node i).member = member
      ∧ t.stateOf i = (if member.isNone then before else if before = .off then .pending false
          else if before = .good then .pending true else before)

/-- In LOWERING and RAISING the engine makes the first change its list calls for. LOWERING: actions of nodes OFF or
FAULTED leave the issue list (R14); level-blocked nodes that are OFF are BLOCKED (R11); an on member that has reached
OFF takes PENDING (R12); on members that will not come are BLOCKED when a node has become FAULTED (R17); off members
whose dependents are all OFF or FAULTED are listed (R13, R14); the head of the list is issued, or held with a HELD
notice (R14, R26); LOWERING ends when every off member is resolved and nothing falls (R15). RAISING: the list is
cleared as above; on members that will not come are BLOCKED (R17); a member that waits again after a ramp failure
rejoins the queue (R16, R67); on members whose prerequisites are all GOOD are listed (R16); the head is issued or
held; the arbiter grants (R83); the transition completes when every member is resolved, no CRITICAL one FAULTED, and
nothing is queued or falling (R19). A change set that was empty at the start event ends both phases at once, also while
a node that is no member falls (R21, where R15 and R19 say otherwise; entry 33); a level-blocked one of these is to take
BLOCKED at OFF (R11, entry 33). What is listed stands behind what earlier events have listed, and in slot order among
what this event lists (R14). The order of these changes inside one event is the model's (entry 21), so is the slot order
of several nodes to block and what their notices carry (entries 20, 38) and the mark of the test in LOWERING (entry
39); that a FAULTED CRITICAL member holds completion is entry 23. -/
def Obligations.MembersMoveInDependencyOrder : Prop :=
  (∀ (e : Env) (b : Board), b.phase = .lowering →
    let gone := fun a : Action => (b.stateOf a.slot).isDown
    let levels := slots.filter (fun i => (b.node i).levelBlocked = true ∧ b.stateOf i = .off)
    let back := slots.filter (fun i => (b.node i).member = some true ∧ b.stateOf i = .off)
    let eligible := slots.filter (fun i => (b.node i).member = some false ∧ b.stateOf i = .pending true
      ∧ (∀ d ∈ e.cfg.dependents i, (b.stateOf d).isDown = true) ∧ b.issue.any (fun a => a.slot == i) = false)
    engineStep e b =
      if b.issue.any gone = true then some { b with
        issue := b.issue.filter (fun a => !gone a), held := b.held && !(b.issue.head?.any gone) }
      else if levels ≠ [] then some (levels.foldl (fun t i =>
        if t.phase = .lowering then takeFault e t i .blocked false else reportFault e t i .blocked .none) b)
      else match back with
      | i :: _ => some (enter e.cfg b i (.pending false) none)
      | [] =>
        if b.blockTest = true then match toBlock e.cfg b with
          | i :: _ => some (takeFault e b i .blocked false)
          | [] => some { b with blockTest := false }
        else if eligible ≠ [] then some (enlist b .off eligible)
        else match issueStep e b with
        | some t => some t
        | none =>
          if b.emptyChange = true ∨ ∀ i, ((b.node i).member = some false → (b.stateOf i).isDown = true)
            ∧ b.stateOf i ≠ .stopping ∧ b.stateOf i ≠ .discharging then some { b with phase := .raising }
          else none)
  ∧ (∀ (e : Env) (b : Board), b.phase = .raising →
    let gone := fun a : Action => (b.stateOf a.slot).isDown
    let waits := fun i => (b.node i).member = some true ∧ b.stateOf i = .pending false
      ∧ ∀ p ∈ e.cfg.prereqs i, (b.stateOf p).isGood = true
    let retried := slots.filter (fun i => waits i ∧ b.stack.any (fun a => a.slot == i) = true)
    let eligible := slots.filter (fun i => waits i ∧ b.stack.any (fun a => a.slot == i) = false
      ∧ b.issue.any (fun a => a.slot == i) = false)
    engineStep e b =
      if b.issue.any gone = true then some { b with
        issue := b.issue.filter (fun a => !gone a), held := b.held && !(b.issue.head?.any gone) }
      else match toBlock e.cfg b with
      | i :: _ => some (takeFault e b i .blocked false)
      | [] => match retried with
        | i :: _ => some (enter e.cfg b i .queued none)
        | [] =>
          if eligible ≠ [] then some (enlist b .on eligible)
          else match issueStep e b with
          | some t => some t
          | none => match grantStep e b with
            | some t => some t
            | none =>
              if b.emptyChange = true then some (complete e { b with nodes := b.nodes.map (fun n =>
                if n.levelBlocked = true ∧ (n.state = .stopping ∨ n.state = .discharging)
                then { n with ending := .blocked } else n) })
              else if ∀ i, ((b.node i).member = some true → b.stateOf i = .good ∨ (b.stateOf i).isFaulted = true)
                ∧ ((b.node i).member = some false → (b.stateOf i).isDown = true)
                ∧ ((b.node i).member ≠ none → (b.stateOf i).isFaulted = true → e.cfg.critical i = false)
                ∧ b.stateOf i ≠ .stopping ∧ b.stateOf i ≠ .discharging ∧ b.stateOf i ≠ .queued then
                some (complete e b)
              else none)
  ∧ (∀ (cfg : WorkingConfig) (b : Board) (i : Slot), i ∈ toBlock cfg b ↔
    (b.node i).member = some true ∧ b.stateOf i = .pending false ∧ ∃ p ∈ cfg.prereqs i,
      (b.stateOf p).isFaulted = true ∨ (b.stateOf p = .off ∧ (b.node p).member ≠ some true) ∨ p ∈ toBlock cfg b)
  ∧ (∀ (b : Board) (act : ActKind) (l : List Slot), ∃ now : List Action,
    enlist b act l = { b with
      issue := b.issue.filter (fun a => a.slot ∉ b.listedNow) ++ now, listedNow := b.listedNow ++ l }
    ∧ now.Perm (b.issue.filter (fun a => a.slot ∈ b.listedNow) ++ l.map (fun i => ⟨i, act⟩))
    ∧ now.Pairwise (fun a c => a.slot ≤ c.slot))
  ∧ ∀ (e : Env) (b : Board),
    (b.issue = [] → issueStep e b = none)
    ∧ ∀ a rest, b.issue = a :: rest → issueStep e b =
      if b.stepHold = false then some (issueAction e { b with issue := rest, held := false } a)
      else if b.held = true then none
      else some { b with held := true, notices := postInto b.notices (.held a.slot a.act) }

/-- REVERSING undoes one entry at a time on a board at rest: an undo entry at rest is removed, a forward entry is
settled by the table, and with the stack empty REVERSING ends (R135 to R137, R139). While a node is not at rest the
listed undo is issued or held and the arbiter grants; an action whose node is OFF or FAULTED leaves the list (R14,
R26, R83). `listedNow` is the model's own (entry 21). -/
def Obligations.UndoOneEntryAtATime : Prop :=
  (∀ (e : Env) (b : Board), b.phase = .reversing →
    let gone := fun a : Action => (b.stateOf a.slot).isDown
    (b.issue.any gone = true → engineStep e b = some { b with
      issue := b.issue.filter (fun a => !gone a), held := b.held && !(b.issue.head?.any gone) })
    ∧ (b.issue.any gone = false →
      (∀ a l, b.stack = a :: l → (a.act = .undoOn ∨ a.act = .undoOff) → (b.stateOf a.slot).atRest = false) →
      (∃ i, b.stateOf i ≠ .off ∧ b.stateOf i ≠ .good ∧ (b.stateOf i).isFaulted = false) →
      engineStep e b = match issueStep e b with
        | some t => some t
        | none => grantStep e b))
  ∧ ∀ (e : Env) (b : Board), b.phase = .reversing → b.issue = [] → b.queue e.cfg = [] →
    let rest : Prop := ∀ i, b.stateOf i = .off ∨ b.stateOf i = .good ∨ (b.stateOf i).isFaulted = true
    (rest → b.stack = [] → engineStep e b = some (endReversing e b))
    ∧ (¬ rest → (∀ a l, b.stack = a :: l → a.act = .on ∨ a.act = .off) → engineStep e b = none)
    ∧ ∀ i act l, b.stack = ⟨i, act⟩ :: l →
      ((act = .undoOn ∨ act = .undoOff) → (b.stateOf i).atRest = true → engineStep e b = some { b with stack := l })
      ∧ (rest → (act = .on ∨ act = .off) → (b.stateOf i).isFaulted = true → engineStep e b = some { b with stack := l })
      ∧ (rest → act = .on → b.stateOf i = .off → engineStep e b = some { b with stack := l })
      ∧ (rest → act = .off → b.stateOf i = .good → engineStep e b = some { b with stack := l })
      ∧ (rest → act = .on → b.stateOf i = .good → (∀ d ∈ e.cfg.dependents i, (b.stateOf d).isDown = true) →
        engineStep e b = some { enter e.cfg b i (.pending true) none with
          issue := [⟨i, .undoOff⟩], listedNow := b.listedNow ++ [i] })
      ∧ (rest → act = .off → b.stateOf i = .off → (∀ p ∈ e.cfg.prereqs i, (b.stateOf p).isGood = true) →
        engineStep e b = some { enter e.cfg b i (.pending false) none with
          issue := [⟨i, .undoOn⟩], listedNow := b.listedNow ++ [i] })
      ∧ (rest → act = .off → b.stateOf i = .off → (∃ p ∈ e.cfg.prereqs i, (b.stateOf p).isGood = false) →
        engineStep e b = some (takeFault e { b with stack := l } i .blocked false))

/-- The effects of a completion: the to-state is reached, the list absorbed into WORKING, the watchdog armed by a
resume, the dwell started by a DOZE_IN with one, the record closed as the last with its DONE notice, the plan and the
stack gone, and the follow-on set (R8, R20, R23, R24). The effects of the end of REVERSING: the platform stays, the
record closes as REVERSED or UNWOUND, a reversal into WORKING absorbs the list and arms the watchdog, an unwound
resume counts, and a third one outside OFF sets the recovery DROP (R8, R139 to R141); that the counter stops at 3 is
the model's reading (entry 32). -/
def Obligations.TransitionEnds : Prop :=
  (∀ (e : Env) (b : Board) (r : Record), b.record = some r →
    let t := complete e b
    let absorbed := if r.target = .working then b.wakes else []
    let done : Record := { r with
      reached := some r.target, outcome := some .completed, absorbed := absorbed
      duration := min 65535 (e.now - b.startedAt) }
    t.platform = r.target ∧ t.phase = .idle ∧ t.record = none ∧ t.last = some done
    ∧ t.notices = postInto b.notices (.done done)
    ∧ t.stack = [] ∧ t.issue = [] ∧ t.held = false ∧ t.requestedDwell = none
    ∧ t.wakes = (if r.target = .working then [] else b.wakes)
    ∧ t.watchdog = (if (r.kind = .up ∨ r.kind = .dozeOut) ∧ e.cfg.settings.resumeDeadline ≠ 0 then
        .armed (e.cfg.settings.resumeDeadline * 1000) e.now false r.kind .completed else b.watchdog)
    ∧ t.dwell = (match b.requestedDwell with
        | some m => if r.kind = .dozeIn then .running m (e.now + m * 60000) else b.dwell
        | none => b.dwell)
    ∧ t.followOn = (if r.kind = .relevel ∧ r.origin = some .start ∧ e.cfg.settings.acPolicy = .powerOn
          ∧ e.acokHigh = true then some .acRestoreUp
        else if r.kind = .down ∧ r.origin = some .recovery ∧ r.target = .off ∧ b.counter < 3 then some .recoveryUp
        else none)
    ∧ t.counter = b.counter ∧ t.lockout = b.lockout ∧ t.outs = b.outs ∧ t.inUse = b.inUse ∧ t.pointer = b.pointer
    ∧ t.acRestore = b.acRestore ∧ t.recovery = b.recovery ∧ t.stepHold = b.stepHold
    ∧ ∀ i, t.node i = { b.node i with target := false, levelBlocked := false, member := none, startLevel := false })
  ∧ ∀ (e : Env) (b : Board) (r : Record), b.record = some r →
    let t := endReversing e b
    let down : Bool := r.kind = .dozeIn ∨ r.kind = .down ∨ r.kind = .drop
    let resume : Bool := r.kind = .up ∨ r.kind = .dozeOut
    let working : Bool := down && r.source = .working
    let counter := if resume then min 3 (b.counter + 1) else b.counter
    let done : Record := { r with
      reached := some r.source, outcome := some (if down then .reversed else .unwound)
      absorbed := if working then b.wakes else []
      duration := min 65535 (e.now - b.startedAt) }
    t.platform = b.platform ∧ t.phase = .idle ∧ t.record = none ∧ t.last = some done
    ∧ t.notices = postInto b.notices (.done done)
    ∧ t.stack = [] ∧ t.issue = [] ∧ t.held = false ∧ t.requestedDwell = none
    ∧ t.wakes = (if working then [] else b.wakes) ∧ t.counter = counter
    ∧ t.watchdog = (if working ∧ e.cfg.settings.resumeDeadline ≠ 0 then
        .armed (e.cfg.settings.resumeDeadline * 1000) e.now false r.kind .reversed else b.watchdog)
    ∧ t.followOn = (if resume ∧ counter = 3 ∧ r.source ≠ .off then some .recoveryDrop else none)
    ∧ t.dwell = b.dwell ∧ t.lockout = b.lockout ∧ t.outs = b.outs ∧ t.inUse = b.inUse ∧ t.pointer = b.pointer
    ∧ t.acRestore = b.acRestore ∧ t.recovery = b.recovery ∧ t.stepHold = b.stepHold
    ∧ ∀ i, t.node i = { b.node i with target := false, levelBlocked := false, member := none, startLevel := false }

/-- An IDLE engine takes the first claim that holds, in the order of R7, and the wake service chooses the lowest
priority number, the earliest of equals (R7, R122, R142). A follow-on starts what R8 names: the UP of origin
AC_RESTORE, the UP of origin RECOVERY while ACOK is high, the DROP to OFF of origin RECOVERY; it lapses with ACOK low
in the second case, and under UNCONFIGURED or a lockout, where R2 lets no such transition start. -/
def Obligations.ClaimsAreTakenInOrder : Prop :=
  (∀ (e : Env) (b : Board), b.phase = .idle → engineStep e b =
    if b.platform = .off ∧ b.counter = 3 ∧ b.lockout = .none then
      some { b with lockout := .resume, wakes := [], acRestore := false }
    else match b.followOn with
    | some f => some (takeFollowOn e b f)
    | none =>
      if e.unconfigured = true ∨ b.lockout ≠ .none then none
      else if b.recovery = true ∧ b.platform = .working then
        some (start e { b with recovery := false } .down .off .recovery none none)
      else match (if b.platform ≠ .working ∧ e.acokHigh = true then pickWake e.cfg b.wakes else none) with
      | some id => some (start e { b with wakes := b.wakes.erase id }
          (if b.platform = .doze then .dozeOut else .up) .working .wake (some id) none)
      | none =>
        if b.dwell = .expired ∧ b.platform = .doze ∧ e.acokHigh = true then
          some (start e b .drop .hibernate .chain none none)
        else if b.acRestore = true ∧ b.platform = .off ∧ e.acokHigh = true ∧ e.cfg.settings.acPolicy = .powerOn then
          some (start e { b with acRestore := false } .up .working .acRestore none none)
        else none)
  ∧ (∀ (e : Env) (b : Board) (f : FollowOn),
    let rest := { b with followOn := none }
    takeFollowOn e b f =
      if e.unconfigured = true ∨ b.lockout ≠ .none then rest
      else match f with
      | .acRestoreUp => start e rest .up .working .acRestore none none
      | .recoveryUp => if e.acokHigh = true then start e rest .up .working .recovery none none else rest
      | .recoveryDrop => start e rest .drop .off .recovery none none)
  ∧ ∀ (cfg : WorkingConfig) (l : List SourceId),
    (pickWake cfg l = none ↔ l = [])
    ∧ ∀ id, pickWake cfg l = some id → ∃ l1 l2, l = l1 ++ id :: l2
      ∧ (∀ x ∈ l1, cfg.wakePriority id < cfg.wakePriority x) ∧ ∀ x ∈ l2, cfg.wakePriority id ≤ cfg.wakePriority x

/-! ### Reversal, faults, emergency off, lockouts -/

/-- REVERSING begins: queued and PENDING nodes return to their start level, the change set is dissolved, targets
become start levels, and a node that a cascade has released though its start level is on is BLOCKED (R132). A former
on member that falls with no entry on the stack falls from an earlier cascade and stays OFF at rest; any other released
node keeps its ending (R135). That only the first is step 5's node is the model's reading (entry 43). -/
def Obligations.ReversingBegins : Prop :=
  ∀ (e : Env) (b : Board),
    let t := beginReversing e b
    t.phase = .reversing ∧ t.issue = [] ∧ t.held = false ∧ t.stack = b.stack ∧ t.platform = b.platform
    ∧ t.wakes = b.wakes ∧ t.counter = b.counter ∧ t.stepHold = b.stepHold ∧ t.pointer = b.pointer
    ∧ ∀ i,
      let n := b.node i
      let here : NodeState := match n.state with
        | .queued | .pending false => .off
        | .pending true => .good
        | st => st
      let lost : Bool := n.startLevel && !b.stack.any (fun a => a.slot == i)
      t.stateOf i = (if lost && here == .off then .faulted .blocked else here)
      ∧ (t.node i).member = none ∧ (t.node i).levelBlocked = false ∧ (t.node i).target = n.startLevel
      ∧ (t.node i).startLevel = n.startLevel ∧ (t.node i).retriesLeft = n.retriesLeft
      ∧ (here = .discharging → (t.node i).failure = false)
      ∧ (here = .stopping ∨ here = .discharging → (t.node i).deadline = n.deadline ∧ (t.node i).forced = n.forced
          ∧ (t.node i).ending = (if lost then .blocked
            else if n.forced = true ∧ ¬(n.member = some true ∧ ¬ ∃ a ∈ b.stack, a.slot = i) then n.ending else .off))

/-- The situations that arm a source, and the two conditions that override them; an arrival of a source that is not
armed leaves the board as it was (R115, R116). -/
def Obligations.ArmingFollowsTheSituation : Prop :=
  ∀ (e : Env) (b : Board) (id : SourceId),
    (armed e b id = true ↔ e.unconfigured = false ∧
      if b.lockout ≠ .none then id = 8
      else
        let a := e.cfg.armedSet id
        let has := fun p => (p = Platform.doze ∧ a.doze = true) ∨ (p = .hibernate ∧ a.hibernate = true)
          ∨ (p = .off ∧ a.off = true)
        match b.phase with
        | .idle => has b.platform
        | .draining => has .off
        | .lowering | .raising | .reversing => ∃ r, b.record = some r ∧ (has r.source ∨ has r.target))
    ∧ (b.lockout = .none → armed e b id = false → arrive e b id = b)
    ∧ (b.lockout ≠ .none → id ≠ 8 → arrive e b id = b)

/-- An armed arrival outside a lockout reverses a downward transition in LOWERING or RAISING under policy REVERSE with
the mark set, joining the list too when the from-state is a sleeping state; otherwise it joins the list (R118, R119,
R133). A BUTTON arrival clears a RESUME lockout always and a THERMAL one only with HOTSHUT_N inactive, with the
counter to 0; on an IDLE board in OFF, in a RELEVEL there and in DRAINING it joins the list. Otherwise it leaves no trace
(R116, R158, R159). Under UNCONFIGURED too it clears the lockout first and is then discarded (entry 24). -/
def Obligations.ArrivalsHaveOneFate : Prop :=
  (∀ (e : Env) (b : Board) (id : SourceId), b.lockout = .none → armed e b id = true →
    let joined := if id ∈ b.wakes then b.wakes else b.wakes ++ [id]
    (∀ r, b.record = some r → (b.phase = .lowering ∨ b.phase = .raising) →
      (r.kind = .dozeIn ∨ r.kind = .down ∨ r.kind = .drop) → b.reversible = true → e.cfg.wakePolicy id = .reverse →
      arrive e b id = beginReversing e { b with
        record := some { r with wake := some id }, wakes := if r.source = .working then b.wakes else joined })
    ∧ ((b.record = none ∨ (b.phase ≠ .lowering ∧ b.phase ≠ .raising) ∨ b.reversible = false
        ∨ e.cfg.wakePolicy id = .defer ∨ ∃ r, b.record = some r ∧ (r.kind = .up ∨ r.kind = .dozeOut ∨ r.kind = .relevel)) →
      arrive e b id = { b with wakes := joined }))
  ∧ ∀ (e : Env) (b : Board), b.lockout ≠ .none →
    ((b.lockout = .thermal ∧ e.hotshutActive = true) → arrive e b 8 = b)
    ∧ ((b.lockout = .resume ∨ e.hotshutActive = false) → e.unconfigured = true →
      arrive e b 8 = { b with lockout := .none, counter := 0 })
    ∧ ((b.lockout = .resume ∨ e.hotshutActive = false) → e.unconfigured = false →
      ((b.phase = .idle ∧ b.platform = .off) ∨ b.phase = .draining
        ∨ ((b.phase = .lowering ∨ b.phase = .raising ∨ b.phase = .reversing)
          ∧ ∃ r, b.record = some r ∧ r.kind = .relevel ∧ r.source = .off)) →
      arrive e b 8 = { b with
        lockout := .none, counter := 0, wakes := if 8 ∈ b.wakes then b.wakes else b.wakes ++ [8] })

/-- What a fault does: the node is FAULTED and reported with the consequence that the situation and a critical loss
give; the consequence is then made, and a lost node's dependents are released (R148 to R151). The record keeps the
first fault of a transition, replaced by a critical one alone (R18; in DRAINING none enters it, entry 25). The
released set are the transitive dependents neither OFF nor FAULTED, released in slot order with ending BLOCKED where
the level required at that moment is on: in IDLE that of the platform state, in a transition the target (R151, R132).
A release takes a waiting node to its ending at once, sends a node whose output is on down with its discharge deadline
started, lets a falling node run on, and leaves one that is OFF or FAULTED alone (R73). The mark of the test due in
LOWERING is the model's (entry 39). -/
def Obligations.FaultConsequences : Prop :=
  (∀ (e : Env) (b : Board) (i : Slot) (k : FaultKind) (loss : Bool),
    let released := if loss then releasedSet e.cfg b i else []
    let critical : Bool := e.cfg.critical i
      || released.any (fun d => e.cfg.critical d && !(b.stateOf d == .stopping || b.stateOf d == .discharging))
    let upward : Bool := match b.record with
      | some r => r.kind = .up ∨ r.kind = .dozeOut ∨ r.kind = .relevel
      | none => false
    let c : Consequence := match b.phase with
      | .draining => .none
      | .idle | .reversing => if critical then .emergency else .none
      | .lowering | .raising => if critical then if upward then .unwind else .emergency else .none
    takeFault e b i k loss = (match c with
      | .emergency => emergencyOff e (reportFault e b i k .emergency) .critical (some (i, k))
      | .unwind => cascade e (beginReversing e (reportFault e b i k .unwind)) released .unwind
      | .none => if b.phase = .draining then reportFault e b i k .none
        else cascade e (reportFault e b i k .none) released .none)
    ∧ ∀ c', (reportFault e b i k c').stateOf i = .faulted k
      ∧ (∀ j, j ≠ i → (reportFault e b i k c').node j = b.node j)
      ∧ (reportFault e b i k c').notices = postInto b.notices (.fault i k (faultSample e.cfg b i) b.phase
          (if b.phase = .lowering ∨ b.phase = .raising ∨ b.phase = .reversing then b.record.map Record.kind else none) c')
      ∧ (reportFault e b i k c').record =
        (if b.phase = .lowering ∨ b.phase = .raising ∨ b.phase = .reversing then
          b.record.map (fun r => { r with fault := if r.fault = none ∨ c' ≠ .none then some (i, k) else r.fault })
        else b.record)
      ∧ (reportFault e b i k c').blockTest = (b.blockTest || b.phase == .lowering))
  ∧ (∀ (cfg : WorkingConfig) (b : Board) (i : Slot), (releasedSet cfg b i).Pairwise (· < ·)
    ∧ ∀ d, d ∈ releasedSet cfg b i ↔
      Relation.TransGen cfg.lists d i ∧ b.stateOf d ≠ .off ∧ (b.stateOf d).isFaulted = false)
  ∧ (∀ (e : Env) (b : Board) (released : List Slot) (c : Consequence),
    cascade e b released c = released.foldl (fun t d => release e t d
      (if (if t.phase = .idle then e.cfg.required t.platform d else (t.node d).target) = true then .blocked else .off) c) b)
  ∧ ∀ (e : Env) (b : Board) (i : Slot) (r : NodeRecord) (ending : Ending) (c : Consequence), e.cfg.node i = some r →
    let t := release e b i ending c
    match b.stateOf i with
    | .off | .faulted _ => t = b
    | .queued | .pending false => t = (match ending with
      | .off => enter e.cfg b i .off none
      | .blocked => reportFault e b i .blocked c)
    | .pending true | .ramping | .settling | .good =>
      t.stateOf i = (if r.body.isRail then .discharging else .stopping)
      ∧ (t.node i).deadline = some ⟨.discharge, e.now + r.discharge⟩
      ∧ (t.node i).forced = true ∧ (t.node i).ending = ending ∧ (t.node i).failure = false
      ∧ t.outs.get r.output = .driven (flipLevel r.polarity)
      ∧ t.inUse = (if b.stateOf i = .ramping then b.inUse - (b.node i).charge else b.inUse)
      ∧ (∀ j, j ≠ i → t.node j = b.node j) ∧ t = { b with nodes := t.nodes, outs := t.outs, inUse := t.inUse }
    | .stopping | .discharging =>
      t = b.setNode i { b.node i with ending := ending, failure := false, forced := true }

/-- Emergency off begins: every node that is not at rest off starts down at this event without order, and the engine,
the list, the claims and the long timers are emptied; the counter and the lockout stand (R154). -/
def Obligations.EmergencyOffTakesEverythingDown : Prop :=
  ∀ (e : Env) (b : Board) (cause : Cause) (fault : Option (Slot × FaultKind)),
    let t := emergencyOff e b cause fault
    t.phase = .draining ∧ t.cause = some cause ∧ t.thermalMark = (cause == .thermal) ∧ t.platform = b.platform
    ∧ t.issue = [] ∧ t.stack = [] ∧ t.held = false ∧ t.stepHold = b.stepHold ∧ t.reversible = false
    ∧ t.requestedDwell = none ∧ t.followOn = none ∧ t.wakes = [] ∧ t.acRestore = false ∧ t.dwell = .none
    ∧ t.watchdog = .disarmed ∧ t.recovery = false ∧ t.counter = b.counter ∧ t.lockout = b.lockout
    ∧ t.notices = b.notices ∧ t.last = b.last ∧ t.pointer = b.pointer
    ∧ t.record = some (match b.record with
      | none => ⟨if b.platform = .working then .down else if b.platform = .off then .relevel else .drop, b.platform, .off,
          none, none, none, none, fault, none, [], 0⟩
      | some r => { r with
          wake := if r.kind = .dozeIn ∨ r.kind = .down ∨ r.kind = .drop then none else r.wake
          fault := if fault.isSome then fault else r.fault })
    ∧ ∀ i r, e.cfg.node i = some r →
      match b.stateOf i with
      | .off => t.stateOf i = .off
      | .faulted k => t.stateOf i = .faulted k
      | .queued | .pending false => t.stateOf i = .off
      | .stopping | .discharging => t.stateOf i = b.stateOf i ∧ (t.node i).deadline = (b.node i).deadline
          ∧ (t.node i).forced = true ∧ (t.node i).ending = .off ∧ (t.node i).failure = false
      | .pending true | .ramping | .settling | .good =>
          t.stateOf i = (if r.body.isRail then .discharging else .stopping)
          ∧ (t.node i).deadline = some ⟨.discharge, e.now + r.discharge⟩
          ∧ (t.node i).forced = true ∧ (t.node i).ending = .off ∧ (t.node i).failure = false

/-- The end of an emergency off: OFF, the record closed with outcome EMERGENCY and its cause, the lockout by the
thermal mark and the counter, the AC restore mark after an ACFAIL under POWER_ON with no lockout set (R156, R157). -/
def Obligations.EmergencyOffEnds : Prop :=
  ∀ (e : Env) (b : Board) (r : Record), b.record = some r →
    let t := endEmergency e b
    let done : Record := { r with
      reached := some .off, outcome := some .emergency, cause := b.cause, duration := min 65535 (e.now - b.startedAt) }
    let locks : Bool := b.thermalMark || (b.counter = 3 ∧ b.lockout ≠ .thermal)
    t.platform = .off ∧ t.phase = .idle ∧ t.record = none ∧ t.last = some done
    ∧ t.notices = postInto b.notices (.done done) ∧ t.cause = none ∧ t.thermalMark = false
    ∧ t.lockout = (if b.thermalMark then .thermal
        else if b.counter = 3 ∧ b.lockout ≠ .thermal then .resume else b.lockout)
    ∧ t.wakes = (if locks then [] else b.wakes)
    ∧ t.acRestore = (!locks && (b.acRestore || (b.cause == some .acfail && e.cfg.settings.acPolicy == .powerOn)))
    ∧ t.counter = b.counter ∧ t.outs = b.outs ∧ t.inUse = b.inUse ∧ t.stepHold = b.stepHold
    ∧ (∀ i, t.stateOf i = b.stateOf i)
    ∧ (b.phase = .draining → (engineStep e b = some t ↔ ∀ i, (b.stateOf i).isDown = true))

/-! ### Wake lines and source records -/

/-- A line in a level mode: one arrival when it has held its active level for the debounce, none while it is held,
IDLE again at its first change away (R112). A debounce expiry that is not yet due changes nothing (entry 2), and a pin
command that names the level the pin has is no change; both are the model's choice. So is that before the load event the
pin of a line of any mode moves alone (entry 9). -/
def Obligations.LevelLinesQualify : Prop :=
  ∀ (s : State) (l : WakeLine),
    let r := s.cfg.line l
    let q := s.qual l
    (s.isUp = false → ∀ level, exec (.wakeLineChange l level) s = .next (s.setWake l level))
    ∧ (s.isUp = true → (r.mode = .levelHigh ∨ r.mode = .levelLow) →
    (∀ level, s.pins.wk.get l = level → exec (.wakeLineChange l level) s = .next s)
    ∧ (∀ level, s.pins.wk.get l ≠ level → exec (.wakeLineChange l level) s =
      let moved := s.setWake l level
      if level = (if r.mode = .levelHigh then Level.high else .low) then
        match q.state with
        | .idle | .counting =>
          if r.debounce = 0 then
            .next (finish moved { moved.setQual l { q with state := .active, debounce := none } with
              board := arrive s.env s.board (lineId l) })
          else .next (moved.setQual l { q with state := .debouncing, debounce := some (s.now + r.debounce) })
        | .debouncing | .active => .next moved
      else
        match q.state with
        | .debouncing => .next (moved.setQual l { q with state := .idle, debounce := none })
        | .active => .next (moved.setQual l { q with state := .idle })
        | .idle | .counting => .next moved)
    ∧ (∀ t, q.state = .debouncing → q.debounce = some t → exec (.wakeDebounceExpiry l) s =
      if t ≤ s.now then .next (finish s { s.setQual l { q with state := .active, debounce := none } with
        board := arrive s.env s.board (lineId l) })
      else .next s))

/-- A line in an edge mode: each edge that holds for the debounce is counted; the count that reaches the edge count is
an arrival, the first of a run opens the count window, and the window's end discards the tally (R113).
An expiry that is not yet due and a pin command that names the level the pin has change nothing, which is the model's
choice (entry 2). -/
def Obligations.EdgeLinesCount : Prop :=
  ∀ (s : State) (l : WakeLine),
    let r := s.cfg.line l
    let q := s.qual l
    s.isUp = true → (r.mode = .rising ∨ r.mode = .falling) →
    let counted : State → Host.Outcome State Fault Refusal := fun s1 =>
      if r.edgeCount ≤ q.tally + 1 then
        .next (finish s1 { s1.setQual l ⟨.idle, none, 0, none⟩ with board := arrive s.env s.board (lineId l) })
      else .next (s1.setQual l ⟨.counting, none, q.tally + 1,
        if q.tally = 0 then some (s.now + r.window) else q.window⟩)
    (∀ level, s.pins.wk.get l = level → exec (.wakeLineChange l level) s = .next s)
    ∧ (∀ level, s.pins.wk.get l ≠ level → exec (.wakeLineChange l level) s =
      let moved := s.setWake l level
      if level = (if r.mode = .rising then Level.high else .low) then
        match q.state with
        | .idle | .counting =>
          if r.debounce = 0 then counted moved
          else .next (moved.setQual l { q with state := .debouncing, debounce := some (s.now + r.debounce) })
        | .debouncing | .active => .next moved
      else
        match q.state with
        | .debouncing => .next (moved.setQual l
            { q with state := if q.tally = 0 then .idle else .counting, debounce := none })
        | .active => .next (moved.setQual l { q with state := .idle })
        | .idle | .counting => .next moved)
    ∧ (∀ t, q.state = .debouncing → q.debounce = some t → exec (.wakeDebounceExpiry l) s =
      if t ≤ s.now then counted s else .next s)
    ∧ (∀ t, q.window = some t → exec (.countWindowExpiry l) s =
      if t ≤ s.now then .next (s.setQual l
        { q with tally := 0, window := none, state := if q.state = .debouncing then .debouncing else .idle })
      else .next s)

/-- SOURCE_PUT is refused BUSY in a transition or a SAVE, RANGE for an id above 9 or a held field outside its list;
else the record is replaced with each number at the nearer end of its range, and a changed qualification starts the
qualifier afresh from the line's level; what that arms follows at the same event (R127, R128). -/
def Obligations.SourcePutReplacesTheRecord : Prop :=
  ∀ (s : State) (p : SourcePayload), s.isReady →
    let busy : Bool := s.board.phase.inTransition || s.store.saving.isSome
    let taken := fun (s1 : State) (clamped : Bool) => Host.Outcome.next (φ := Fault) (ρ := Refusal)
      (finish s (s1.withReply 11 [0x99, 1, if clamped then 0x02 else 0x00]))
    (busy = true → exec (.sourcePut p) s = .next (s.withReply 11 (refusal 0x19 0x10)))
    ∧ (busy = false → (9 < p.id.toNat ∨ 1 < p.policy.toNat ∨ (p.id ≠ 8 ∧ 7 < p.armed.toNat)
        ∨ (p.id.toNat < 8 ∧ 3 < p.mode.toNat)) →
      exec (.sourcePut p) s = .next (s.withReply 11 (refusal 0x19 0x12)))
    ∧ (busy = false → p.id = 8 → p.policy.toNat ≤ 1 → exec (.sourcePut p) s = taken
      { s with cfg := { s.cfg with button := ⟨min 7 p.priority.toNat, if p.policy = 0 then .reverse else .defer⟩ } }
      (decide (7 < p.priority.toNat)))
    ∧ (busy = false → p.id = 9 → p.policy.toNat ≤ 1 → p.armed.toNat ≤ 7 → exec (.sourcePut p) s = taken
      { s with cfg := { s.cfg with link := ⟨⟨p.armed.getLsbD 0, p.armed.getLsbD 1, p.armed.getLsbD 2⟩,
        min 7 p.priority.toNat, if p.policy = 0 then .reverse else .defer⟩ } }
      (decide (7 < p.priority.toNat)))
    ∧ ∀ l : WakeLine, busy = false → p.id.toNat = l.val → p.policy.toNat ≤ 1 → p.armed.toNat ≤ 7 → p.mode.toNat ≤ 3 →
      let mode : WakeMode := if p.mode = 0 then .levelHigh else if p.mode = 1 then .levelLow
        else if p.mode = 2 then .rising else .falling
      let r : LineRecord := ⟨mode, p.debounce.toNat, max 1 (min 15 p.edgeCount.toNat),
        max 1 (min 2000 p.window.toNat), ⟨p.armed.getLsbD 0, p.armed.getLsbD 1, p.armed.getLsbD 2⟩,
        min 7 p.priority.toNat, if p.policy = 0 then .reverse else .defer⟩
      let old := s.cfg.line l
      let afresh : Bool := r.mode ≠ old.mode ∨ r.debounce ≠ old.debounce ∨ r.edgeCount ≠ old.edgeCount
        ∨ r.window ≠ old.window
      let level := s.pins.wk.get l
      let q : Qualifier := if afresh then
          if (mode = .levelHigh ∧ level = .high) ∨ (mode = .levelLow ∧ level = .low)
          then ⟨.debouncing, some (s.now + r.debounce), 0, none⟩ else ⟨.idle, none, 0, none⟩
        else s.qual l
      exec (.sourcePut p) s = taken
        { s.setQual l q with cfg := { s.cfg with lines := s.cfg.lines.set l.val r l.isLt } }
        (decide (r.edgeCount ≠ p.edgeCount.toNat ∨ r.window ≠ p.window.toNat ∨ r.priority ≠ p.priority.toNat))

/-! ### The node table -/

/-- NODE_PUT meets its checks in the order of R40 and R41; a record that passes is held as clamped, with OK or
CLAMPED. A record is read by Table 11-7 and refused RANGE exactly where a value the kind holds lies outside its list
(R30, R42, R200). The structural fields are those of R45, the prerequisites as a set. The clamps are those of R46:
each number to the nearer end of its range, then the nominal to full scale, then the hysteresis to good-low. -/
def Obligations.NodePutChecksInOrder : Prop :=
  (∀ (s : State) (p : List Byte), s.isReady → p.length ≤ 32 →
    let refused := fun code => Host.Outcome.next (φ := Fault) (ρ := Refusal)
      (s.withReply (p.length + 2) (refusal 0x11 code))
    exec (.nodePut p) s =
      if p.length ≠ (if byteAt p 1 = 1 ∧ byteAt p 2 = 0 then 32 else 22) then refused 0x18
      else if s.board.phase.inTransition || s.store.saving.isSome then refused 0x10
      else match finOf 20 (byteAt p 0), parseRecord p with
      | some i, some rec =>
        if ∃ r, rec = some r ∧ ∃ q ∈ r.prereqs, q = i ∨ s.cfg.node q = none then refused 0x13
        else if ∃ r, rec = some r ∧ ∃ j, j ≠ i ∧ ∃ q, s.cfg.node j = some q ∧ (r.output = q.output
            ∨ (r.body.channel ≠ none ∧ r.body.channel = q.body.channel)
            ∨ (r.body.input ≠ none ∧ r.body.input = q.body.input)) then refused 0x15
        else if ∃ r, rec = some r ∧ makesCycle s.cfg i r = true then refused 0x14
        else if rec = none ∧ ∃ j, j ≠ i ∧ i ∈ s.cfg.prereqs j then refused 0x17
        else if structuralChange (s.cfg.node i) rec = true ∧ (s.board.stateOf i).isDown = false then refused 0x16
        else .next ((s.putNode i (rec.map clampNode)).withReply (p.length + 2)
          [0x91, 1, if rec.map clampNode = rec then 0x00 else 0x02])
      | _, _ => refused 0x12)
  ∧ (∀ p : List Byte,
    let num := fun k => (byteAt p k).toNat
    let num2 := fun k => num k + 256 * num (k + 1)
    let bit := fun k j => (byteAt p k).getLsbD j
    let polarity := fun k j => if bit k j = true then Level.high else .low
    let entries := [byteAt p 8, byteAt p 9, byteAt p 10, byteAt p 11].filter (fun x => x ≠ 0xFF)
    (parseRecord p = some none ↔ num 1 = 0)
    ∧ (parseRecord p = none ↔ 3 < num 1 ∨ (num 1 ≠ 0 ∧ (15 < num 3 ∨ 3 < num 5 ∨ 15 < num 6 ∨ 3 < num 7
      ∨ (∃ x ∈ entries, 19 < x.toNat) ∨ ¬ entries.Nodup
      ∨ (num 1 = 1 ∧ (2 < num 2 ∨ (num 2 ≠ 2 ∧ 11 < num 4))) ∨ (num 1 = 3 ∧ 11 < num 4))))
    ∧ ∀ r, parseRecord p = some (some r) →
      r.output.val = num 3 ∧ r.polarity = polarity 5 0 ∧ r.levels = ⟨bit 6 0, bit 6 1, bit 6 2, bit 6 3⟩
      ∧ r.prereqs.map (fun q : Slot => byte1 q.val) = entries
      ∧ r.severity = (if bit 7 0 = true then .critical else .tolerated) ∧ r.irreversible = bit 7 1
      ∧ r.ramp = num2 14 ∧ r.settle = num2 16 ∧ r.discharge = num2 18
      ∧ match r.body with
        | .rail source priority weight retries =>
          num 1 = 1 ∧ priority = num 12 % 16 ∧ retries = num 12 / 16 ∧ weight = num 13
          ∧ match source with
            | .analog c w g b => num 2 = 0 ∧ c.val = num 4 ∧ g = num 20 % 16 ∧ b = num 20 / 16
                ∧ w = ⟨num2 22, num2 24, num 26, num 27, num2 28, num2 30⟩
            | .digital d pol g b => num 2 = 1 ∧ d.val = num 4 ∧ pol = polarity 5 1 ∧ g = num 20 % 16 ∧ b = num 20 / 16
            | .timed => num 2 = 2
        | .signal => num 1 = 2
        | .handshake a pol g => num 1 = 3 ∧ a.val = num 4 ∧ pol = polarity 5 1 ∧ g = num 20 % 16)
  ∧ (∀ old new : Option NodeRecord, structuralChange old new = true ↔ match old, new with
    | none, none => False
    | some r, some q => ¬ (r.output = q.output ∧ r.polarity = q.polarity ∧ r.levels = q.levels
        ∧ (∀ x, x ∈ r.prereqs ↔ x ∈ q.prereqs) ∧ r.irreversible = q.irreversible
        ∧ match r.body, q.body with
          | .rail (.analog c _ _ _) _ _ _, .rail (.analog d _ _ _) _ _ _ => c = d
          | .rail (.digital c m _ _) _ _ _, .rail (.digital d n _ _) _ _ _ => c = d ∧ m = n
          | .rail .timed _ _ _, .rail .timed _ _ _ => True
          | .signal, .signal => True
          | .handshake c m _, .handshake d n _ => c = d ∧ m = n
          | _, _ => False)
    | _, _ => True)
  ∧ (∀ r : NodeRecord, clampNode r = { r with
    ramp := max 1 (min 1000 r.ramp), settle := min 1000 r.settle, discharge := max 1 (min 2000 r.discharge)
    body := match r.body with
      | .rail source priority weight retries => .rail
          (match source with
            | .analog c w g b => .analog c (clampWindow w) (max 1 (min 15 g)) (max 1 (min 15 b))
            | .digital d pol g b => .digital d pol (max 1 (min 15 g)) (max 1 (min 15 b))
            | .timed => .timed)
          (min 15 priority) (min 255 weight) (min 3 retries)
      | .signal => .signal
      | .handshake a pol g => .handshake a pol (max 1 (min 15 g)) })
  ∧ ∀ w : Window,
    let scale := max 1 (min 65535 w.scale)
    let nominal := min (max 1 (min 65535 w.nominal)) (1023 * scale / 1000)
    let under := max 1 (min 250 w.underTol)
    clampWindow w = ⟨nominal, scale, under, max 1 (min 250 w.overTol),
      min (min 500 w.hysteresis) (nominal - nominal * under / 1000), min 500 w.threshold⟩

/-- The CYCLE check refuses exactly the records that would close a cycle in a table without one (R35, R44). -/
def Obligations.CycleCheckIsExact : Prop :=
  ∀ (cfg : WorkingConfig) (i : Slot) (r : NodeRecord), cfg.acyclic →
    (makesCycle cfg i r = false ↔ (cfg.putNode i (some r)).acyclic)

/-- What an accepted put changes: the record and its own slot's live state and lines, by R31 and R47, and nothing
else. -/
def Obligations.NodePutEffects : Prop :=
  ∀ (s : State) (i : Slot) (rec : Option NodeRecord),
    let old := s.cfg.node i
    let n := s.board.node i
    let t := s.putNode i rec
    t = { s with cfg := t.cfg, board := { s.board with nodes := t.board.nodes, outs := t.board.outs } }
    ∧ t.cfg = { s.cfg with nodes := t.cfg.nodes } ∧ t.cfg.node i = rec
    ∧ (∀ j, j ≠ i → t.cfg.node j = s.cfg.node j ∧ t.board.node j = s.board.node j)
    ∧ (t.board.node i).retriesLeft = (match rec with
      | some r => r.body.retries
      | none => 0)
    ∧ t.board.stateOf i = (if rec = none ∨ (n.state.isFaulted = true ∧ structuralChange old rec = true) then .off
      else n.state)
    ∧ (old.bind (fun r => r.body.channel) ≠ rec.bind (fun r => r.body.channel) →
        (t.board.node i).lastSample = none ∧ (t.board.node i).lastClass = .none ∧ (t.board.node i).saturated = false)
    ∧ (old.bind (fun r => r.body.channel) = rec.bind (fun r => r.body.channel) →
        (t.board.node i).lastSample = n.lastSample ∧ (t.board.node i).lastClass = n.lastClass
        ∧ (t.board.node i).saturated = n.saturated)
    ∧ ((n.state = .ramping ∨ n.state = .settling ∨ n.state = .good ∨ n.state = .discharging) →
        (t.board.node i).inCount = 0 ∧ (t.board.node i).overCount = 0 ∧ (t.board.node i).badCount = 0
        ∧ (t.board.node i).offCount = 0)
    ∧ (rec ≠ none → n.state.isFaulted = false → (t.board.node i).deadline = n.deadline)
    ∧ ∀ o, t.board.outs.get o =
      if ∃ q, rec = some q ∧ q.output = o ∧ ¬ ∃ r, old = some r ∧ r.output = o ∧ r.polarity = q.polarity then
        match rec with
        | some q => .driven (flipLevel q.polarity)
        | none => .released
      else if (∃ r, old = some r ∧ r.output = o) ∧ ¬ ∃ q, rec = some q ∧ q.output = o then .released
      else s.board.outs.get o

/-! ### The rail monitor -/

/-- The five thresholds and their bounds (R97). The classes of an analog sample against the good band and against the
hold band (R98, R99), and what ends and completes a run. That the hold band is for a node PENDING with its output on
whether an off action or an undo-off waits is the model's choice (entry 35). -/
def Obligations.ThresholdsAndClasses : Prop :=
  (∀ w : Window, w.inRange →
    w.goodLow = w.nominal - w.nominal * w.underTol / 1000 ∧ 1 ≤ w.goodLow
    ∧ w.goodHigh = w.nominal + w.nominal * w.overTol / 1000 ∧ w.goodHigh ≤ w.nominal * 5 / 4
    ∧ w.holdLow = (if w.goodLow < w.hysteresis then 0 else w.goodLow - w.hysteresis) ∧ w.holdLow ≤ w.goodLow
    ∧ w.holdHigh = w.goodHigh + w.hysteresis
    ∧ w.discharged = w.nominal * w.threshold / 1000 ∧ w.discharged ≤ w.nominal / 2)
  ∧ (∀ w : Window, (clampWindow w).hysteresis ≤ (clampWindow w).goodLow)
  ∧ (∀ (w : Window) (code : Nat), code ≤ 1023 →
    (fullScale w.scale ≤ w.goodHigh → (classify w .ramping code = some .overBand ↔ isSaturated code = true))
    ∧ (fullScale w.scale ≤ w.holdHigh → (classify w .good code = some .badHigh ↔ isSaturated code = true))
    ∧ (w.discharged = 0 → (millivolts code w.scale ≤ w.discharged ↔ code * w.scale < 1000))
    ∧ (code * 4883 < 1000 ↔ code = 0)
    ∧ (classify w .discharging code = some .discharged ↔
        millivolts code w.scale ≤ w.discharged ∧ isSaturated code = false))
  ∧ (∀ (w : Window) (code : Nat),
    let mv := code * w.scale / 1000
    classify w .ramping code = some (if code = 1023 ∨ w.goodHigh < mv then .overBand
      else if mv < w.goodLow then .underBand else .inBand)
    ∧ ∀ st, (st = .settling ∨ st = .good ∨ st = .pending true) →
      classify w st code = some (if code = 1023 ∨ w.holdHigh < mv then .badHigh
        else if mv < w.holdLow then .badLow else .ok))
  ∧ (∀ n : Node, (n.count (tickOfClass .underBand)).inCount = 0 ∧ (n.count (tickOfClass .underBand)).overCount = 0
    ∧ (n.count (tickOfClass .ok)).badCount = 0
    ∧ (n.badCount < 15 → (n.count (tickOfClass .badLow)).badCount = n.badCount + 1
      ∧ (n.count (tickOfClass .badHigh)).badCount = n.badCount + 1))
  ∧ ∀ (g b : Nat) (n : Node), b ≤ n.badCount → resultOf g b n (tickOfClass .badLow) = some (.disqualified false)
    ∧ resultOf g b n (tickOfClass .badHigh) = some (.disqualified true)

/-- The other samples: the discharged threshold (R100), digital inputs by level (R101), the counters they touch (R102)
and the results at the limits (R103). A state that is not read gives no class. That a counter at 15 stays there is the
model's reading of its range (entry 32); that a node PENDING for an undo-off is watched as one PENDING for an off action
is its choice (entry 35). -/
def Obligations.SamplesCountAndProve : Prop :=
  (∀ (w : Window) (code : Nat), classify w .discharging code =
      some (if code ≠ 1023 ∧ code * w.scale / 1000 ≤ w.discharged then .discharged else .notDischarged))
  ∧ (∀ (w : Window) (code : Nat) (st : NodeState),
      (st = .off ∨ st = .pending false ∨ st = .queued ∨ st = .stopping ∨ st.isFaulted = true) →
      classify w st code = none)
  ∧ (∀ good forced : Bool,
    tickOfGoodInput .ramping good = (if good then .up else .neither)
    ∧ (∀ st, (st = .settling ∨ st = .good ∨ st = .pending true) →
        tickOfGoodInput st good = if good then .fine else .bad false)
    ∧ tickOfGoodInput .discharging good = .nothing
    ∧ tickOfAck .ramping forced good = (if good then .up else .neither)
    ∧ tickOfAck .stopping forced good = (if forced then .nothing else if good then .notDown else .down)
    ∧ (∀ st, st ≠ .ramping → st ≠ .stopping → tickOfAck st forced good = .nothing))
  ∧ (∀ n : Node,
    n.count .up = { n with inCount := min 15 (n.inCount + 1), overCount := 0 }
    ∧ n.count .high = { n with inCount := 0, overCount := min 15 (n.overCount + 1) }
    ∧ n.count .neither = { n with inCount := 0, overCount := 0 } ∧ n.count .fine = { n with badCount := 0 }
    ∧ (∀ h, n.count (.bad h) = { n with badCount := min 15 (n.badCount + 1) })
    ∧ n.count .down = { n with offCount := min 15 (n.offCount + 1) }
    ∧ n.count .notDown = { n with offCount := 0 } ∧ n.count .nothing = n)
  ∧ ∀ (g b : Nat) (n : Node),
    resultOf g b n .up = (if g ≤ n.inCount then some .onProof else none)
    ∧ resultOf g b n .high = (if b ≤ n.overCount then some .overVolt else none)
    ∧ (∀ h, resultOf g b n (.bad h) = if b ≤ n.badCount then some (.disqualified h) else none)
    ∧ resultOf g b n .down = (if g ≤ n.offCount then some .offProof else none)
    ∧ resultOf g b n .neither = none ∧ resultOf g b n .fine = none ∧ resultOf g b n .notDown = none
    ∧ resultOf g b n .nothing = none

/-- One analog sample: the last sample (65535 at most), its class and the saturated flag are held, the counters move
unless the discharge is unobserved, and a result is delivered at the event of the sample; a node in a state that is
not read is left alone (R93, R96, R100, R103, R105). One digital sample: counted by R101 at the node's limits, its
result delivered likewise; nothing of it is held. What the switch does with each result, and that elsewhere it changes
nothing (R58, R59, R60, R61, R62, R72, R74). ON_PROOF starts the settle time, and a settle time of 0 makes the node
GOOD at once (R59, R64, R65, R71; entry 18). A change of node state sets deadline, counters and marks, drives the
node's line and releases a charge (R52, R54, R78, R89). That a node PENDING with its output on is watched for an
undo-off as for an off action is the model's reading (entry 35). -/
def Obligations.SamplesAreHeldAndTaken : Prop :=
  (∀ (s : State) (i : Slot) (r : NodeRecord) (w : Window) (code : Nat),
    (classify w (s.board.stateOf i) code = none → s.sampleAnalog i r w code = s)
    ∧ ∀ c, classify w (s.board.stateOf i) code = some c →
    let n := s.board.node i
    let held : Node := { n with
      lastSample := some (min 65535 (code * w.scale / 1000)), lastClass := c, saturated := code == 1023 }
    let tick := if n.state = .discharging ∧ n.unobserved = true then Tick.nothing else tickOfClass c
    let b := s.board.setNode i (held.count tick)
    s.sampleAnalog i r w code =
      match resultOf r.body.limits.1 r.body.limits.2 (held.count tick) tick with
      | none => { s with board := b }
      | some result => finish s { s with board := deliver s.env b i result })
  ∧ (∀ (c : Fin 12) (pol : Level) (w : Window) (g b p wt n : Nat),
    (NodeBody.rail (.analog c w g b) p wt n).limits = (g, b) ∧ (NodeBody.rail (.digital c pol g b) p wt n).limits = (g, b)
    ∧ (NodeBody.handshake c pol g).limits.1 = g)
  ∧ (∀ (s : State) (i : Slot) (r : NodeRecord) (level : Level),
    let n := s.board.node i
    let taken := fun tick : Tick =>
      let b := s.board.setNode i (n.count tick)
      match resultOf r.body.limits.1 r.body.limits.2 (n.count tick) tick with
      | none => { s with board := b }
      | some result => finish s { s with board := deliver s.env b i result }
    s.sampleDigital i r level = match r.body with
      | .rail (.digital _ pol _ _) _ _ _ => taken (match n.state with
        | .ramping => if level = pol then .up else .neither
        | .settling | .good | .pending true => if level = pol then .fine else .bad false
        | _ => .nothing)
      | .handshake _ pol _ => taken (match n.state with
        | .ramping => if level = pol then .up else .neither
        | .stopping => if n.forced = true then .nothing else if level = pol then .notDown else .down
        | _ => .nothing)
      | .rail (.analog ..) _ _ _ | .rail .timed _ _ _ | .signal => s)
  ∧ (∀ (e : Env) (b : Board) (i : Slot),
    let st := b.stateOf i
    deliver e b i .onProof = (if st = .ramping then toSettling e b i else b)
    ∧ deliver e b i .overVolt = (if st = .ramping then takeFault e b i .overvolt false else b)
    ∧ (∀ h, deliver e b i (.disqualified h) =
      if st = .settling then rampFailure e b i
      else if st = .good ∨ st = .pending true then takeFault e b i (if h then .overvolt else .dropout) true else b)
    ∧ deliver e b i .offProof =
      (if (st = .discharging ∧ (b.node i).unobserved = false) ∨ (st = .stopping ∧ (b.node i).forced = false)
        then takeEnding e b i else b))
  ∧ (∀ (e : Env) (b : Board) (i : Slot) (r : NodeRecord), e.cfg.node i = some r →
    toSettling e b i = if r.settle = 0 then enter e.cfg b i .good none
      else enter e.cfg b i .settling (some ⟨.settle, e.now + r.settle⟩))
  ∧ ∀ (cfg : WorkingConfig) (b : Board) (i : Slot) (r : NodeRecord) (st : NodeState) (dl : Option Deadline),
    cfg.node i = some r →
    let n := b.node i
    let t := enter cfg b i st dl
    let down : Bool := st = .off ∨ st.isFaulted = true
    t = { b with nodes := t.nodes, outs := t.outs, inUse := t.inUse } ∧ (∀ j, j ≠ i → t.node j = b.node j)
    ∧ t.node i = { n with
      state := st, deadline := dl, inCount := 0, overCount := 0, offCount := 0
      badCount := if (n.state = .settling ∧ st = .good) ∨ (n.state = .good ∧ st = .pending true)
        ∨ (n.state = .pending true ∧ st = .good) then n.badCount else 0
      ending := if down then .off else n.ending, failure := n.failure && !down, forced := n.forced && !down
      unobserved := n.unobserved && st == .discharging, charge := if st = .ramping then n.charge else 0 }
    ∧ (∀ o, t.outs.get o =
      if o = r.output then .driven (if st.level then r.polarity else flipLevel r.polarity) else b.outs.get o)
    ∧ t.inUse = (if n.state = .ramping ∧ st ≠ .ramping then b.inUse - n.charge else b.inUse)

/-- A continuous round at its time sets the next 1 ms after it and runs its pass; a sleep round begins by powering the
converter for 2 ms, runs its pass and ends with the converter down and the next round one interval after its begin,
unless the pass has ended the mode (R91 to R95; `passAt` by entry 17). That next round holds none from the begin of a
sleep round to its pass is the model's choice (entry 44). A pass takes the channels in ascending order,
then the inputs in ascending order, each by its node's state alone (R93); it goes on when a sample has ended its mode,
and each sample that completes a run is an event of its own (entry 16). Whatever the samples do, the configuration,
the pins and the reply stand, and the monitor is left as set above or as a change of mode sets it (R91, R92). A round
that is not due does nothing (entry 2). A reading for a line bound to no node does nothing, and a sleep round reads
only rails that are GOOD (R93, R94). -/
def Obligations.RoundsRunAndAreSet : Prop :=
  (∀ (s : State) (readings : Readings),
    let asleep : Monitor := ⟨.sleep, .unpowered, some (s.now + s.cfg.settings.sleepInterval), none⟩
    let stabilizing : Monitor := ⟨.continuous, .stabilizing (s.now + 2), some (s.now + 2), none⟩
    let kept := fun t : State => t.cfg = s.cfg ∧ t.inputs = s.inputs ∧ t.quals = s.quals ∧ t.store = s.store
      ∧ t.pins = s.pins ∧ t.startup = s.startup ∧ t.link.reply = s.link.reply
    (s.monitor.mode = .continuous → (∃ t, s.monitor.nextRound = some t ∧ t ≤ s.now) →
      let m : Monitor := { s.monitor with converter := .ready, nextRound := some (s.now + 1) }
      let t := State.pass { s with monitor := m } .continuous readings
      exec (.continuousRound readings) s = .next t ∧ kept t
        ∧ (t.monitor = m ∨ t.monitor = asleep ∨ t.monitor = stabilizing))
    ∧ (s.monitor.mode = .sleep → s.monitor.converter = .unpowered → (∃ t, s.monitor.nextRound = some t ∧ t ≤ s.now) →
      exec .sleepRoundBegin s = .next { s with monitor := { s.monitor with
        converter := .stabilizing (s.now + 2), nextRound := none } })
    ∧ (∀ ready, s.monitor.mode = .sleep → s.monitor.converter = .stabilizing ready → ready ≤ s.now →
      let u := State.pass { s with monitor := { s.monitor with converter := .ready } } .sleep readings
      let ended : Monitor := ⟨.sleep, .unpowered, some (ready - 2 + s.cfg.settings.sleepInterval), some s.now⟩
      let t := { u with monitor := if u.monitor.mode = .sleep then ended else u.monitor }
      exec (.sleepRoundPass readings) s = .next t ∧ kept t
        ∧ (t.monitor = ended ∨ t.monitor = ⟨.continuous, .ready, some (s.now + 1), none⟩ ∨ t.monitor = stabilizing))
    ∧ ((s.monitor.mode = .sleep ∨ ∀ t, s.monitor.nextRound = some t → s.now < t) →
      exec (.continuousRound readings) s = .next s)
    ∧ ((s.monitor.mode = .continuous ∨ s.monitor.converter ≠ .unpowered
        ∨ ∀ t, s.monitor.nextRound = some t → s.now < t) → exec .sleepRoundBegin s = .next s)
    ∧ ((s.monitor.mode = .continuous ∨ ∀ t, s.monitor.converter = .stabilizing t → s.now < t) →
      exec (.sleepRoundPass readings) s = .next s))
  ∧ (∀ (s : State) (m : RoundMode) (readings : Readings), s.pass m readings =
    (List.finRange 12).foldl (fun t c => t.readInput m readings c)
      ((List.finRange 12).foldl (fun t c => t.readChannel m readings c) s))
  ∧ ∀ (s : State) (m : RoundMode) (readings : Readings) (c : Fin 12),
    ((∀ i r, s.cfg.node i = some r → r.body.channel ≠ some c) → s.readChannel m readings c = s)
    ∧ ((∀ i r, s.cfg.node i = some r → r.body.input ≠ some c) → s.readInput m readings c = s)
    ∧ ∀ i r, s.cfg.node i = some r →
      ((∀ j q, s.cfg.node j = some q → q.body.channel = some c → j = i) → r.body.channel = some c →
        (m = .sleep → s.board.stateOf i ≠ .good → s.readChannel m readings c = s)
        ∧ (∀ w g b p wt n, r.body = .rail (.analog c w g b) p wt n → (m = .continuous ∨ s.board.stateOf i = .good) →
          s.readChannel m readings c = s.sampleAnalog i r w (readings.ain.get c).toNat))
      ∧ ((∀ j q, s.cfg.node j = some q → q.body.input = some c → j = i) → r.body.input = some c →
        (m = .sleep → (s.board.stateOf i ≠ .good ∨ r.body.isRail = false) → s.readInput m readings c = s)
        ∧ ((m = .continuous ∨ (s.board.stateOf i = .good ∧ r.body.isRail = true)) →
          s.readInput m readings c = s.sampleDigital i r (readings.inputs.get c)))

/-! ### Node deadlines, retries, the arbiter -/

/-- The expiry of a node's deadline, by kind of node (R59, R60, R62 to R65, R70 to R73); an expiry command whose
deadline is not running and due does nothing (entry 2). -/
def Obligations.DeadlinesEndTheirStates : Prop :=
  ∀ (s : State) (i : Slot) (r : NodeRecord), s.cfg.node i = some r →
    let due := fun k => ∃ d, (s.board.node i).deadline = some d ∧ d.kind = k ∧ d.expiry ≤ s.now
    let ends := fun b => Host.Outcome.next (φ := Fault) (ρ := Refusal) (finish s { s with board := b })
    (due .ramp → exec (.rampDeadlineExpiry i) s = match r.body with
      | .rail .timed _ _ _ => ends (toSettling s.env s.board i)
      | .rail _ _ _ _ => ends (rampFailure s.env s.board i)
      | .handshake .. => ends (takeFault s.env s.board i .handshake false)
      | .signal => ends s.board)
    ∧ (due .settle → exec (.settleTimeExpiry i) s = ends (enter s.cfg s.board i .good none))
    ∧ (due .discharge → exec (.dischargeDeadlineExpiry i) s = match r.body with
      | .rail (.analog ..) _ _ _ => if (s.board.node i).unobserved then ends (takeEnding s.env s.board i)
          else ends (takeFault s.env s.board i .discharge false)
      | .handshake .. => if (s.board.node i).forced then ends (takeEnding s.env s.board i)
          else ends (takeFault s.env s.board i .handshake false)
      | _ => ends (takeEnding s.env s.board i))
    ∧ (¬ due .ramp → exec (.rampDeadlineExpiry i) s = .next s)
    ∧ (¬ due .settle → exec (.settleTimeExpiry i) s = .next s)
    ∧ (¬ due .discharge → exec (.dischargeDeadlineExpiry i) s = .next s)

/-- A ramp failure: the rail goes to its off level and DISCHARGING with the failure mark, but for a forward on action
in REVERSING (R66, R135). The end of that discharge: a retry while retries are left, PENDING or BLOCKED when a
prerequisite is not GOOD, RAMP when none is left. Without a mark the node takes its ending (R56, R67, R138). That a
node BLOCKED so in REVERSING has one retry fewer is the model's choice between R67 and R76 (entry 34). -/
def Obligations.RampFailuresAreRetried : Prop :=
  ∀ (e : Env) (b : Board) (i : Slot) (r : NodeRecord), e.cfg.node i = some r →
    let n := b.node i
    let f := rampFailure e b i
    let spent := b.setNode i { n with retriesLeft := n.retriesLeft - 1, failure := false }
    (r.body.isRail = true → f.stateOf i = .discharging
      ∧ (f.node i).deadline = some ⟨.discharge, e.now + r.discharge⟩ ∧ (f.node i).retriesLeft = n.retriesLeft
      ∧ f.outs.get r.output = .driven (flipLevel r.polarity) ∧ f.stack = b.stack ∧ f.issue = b.issue
      ∧ f.notices = b.notices ∧ (∀ j, j ≠ i → f.node j = b.node j)
      ∧ (f.node i).failure = (b.phase != .reversing || b.stack.contains ⟨i, .undoOn⟩))
    ∧ takeEnding e b i =
      (if n.failure = true then
        if n.retriesLeft = 0 then takeFault e b i .ramp false
        else if b.prereqsGood e.cfg i = true then enter e.cfg spent i .queued none
        else if b.phase = .reversing then takeFault e spent i .blocked false
        else enter e.cfg spent i (.pending false) none
      else match n.ending with
      | .off => enter e.cfg b i .off none
      | .blocked => if n.forced then reportFault e b i .blocked .none else takeFault e b i .blocked false)

/-- The arbiter queue holds exactly the QUEUED nodes, each once: in FIXED mode by priority and then by slot, in
ROTATING mode from the slot after the pointer on, the pointer's own slot last (R80 to R82). Only the head of the queue
is granted: within the budget and with no oversized rail ramping, or, oversized itself, with no rail ramping; a grant
charges the weight, moves the pointer and the node, and pushes its entry (R83 to R86). -/
def Obligations.QueueOrderAndGrants : Prop :=
  (∀ (cfg : WorkingConfig) (b : Board),
    (∀ i, i ∈ b.queue cfg ↔ b.stateOf i = .queued) ∧ (b.queue cfg).Nodup
    ∧ (cfg.settings.mode = .fixed → (b.queue cfg).Pairwise (fun i j =>
        cfg.priority i < cfg.priority j ∨ (cfg.priority i = cfg.priority j ∧ i < j)))
    ∧ (cfg.settings.mode = .rotating → (b.queue cfg).Pairwise (fun i j =>
        (i.val + 19 - b.pointer.val) % 20 < (j.val + 19 - b.pointer.val) % 20)))
  ∧ ∀ (e : Env) (b : Board),
    (b.queue e.cfg = [] → grantStep e b = none)
    ∧ ∀ i rest r, b.queue e.cfg = i :: rest → e.cfg.node i = some r →
      let w := r.body.weight
      let fits := if w ≤ e.cfg.settings.budget
        then b.inUse + w ≤ e.cfg.settings.budget ∧ ∀ j ∈ b.rampingRails e.cfg, e.cfg.weight j ≤ e.cfg.settings.budget
        else b.rampingRails e.cfg = []
      (¬ fits → grantStep e b = none)
      ∧ (fits → ∃ t, grantStep e b = some t ∧ t.inUse = b.inUse + w ∧ t.pointer = i
        ∧ t.stateOf i = .ramping ∧ (t.node i).deadline = some ⟨.ramp, e.now + r.ramp⟩ ∧ (t.node i).charge = w
        ∧ t.outs.get r.output = .driven r.polarity ∧ (∀ j, j ≠ i → t.node j = b.node j)
        ∧ (b.phase = .raising → t.stack = if b.stack.any (fun a => a.slot == i) then b.stack else ⟨i, .on⟩ :: b.stack)
        ∧ (b.phase = .reversing → t.stack = if b.stack.contains ⟨i, .off⟩
            then ⟨i, .undoOn⟩ :: b.stack.filter (fun a => a.slot ≠ i) else b.stack)
        ∧ t.issue = b.issue ∧ t.phase = b.phase ∧ t.notices = b.notices)


/-! ### The front panel -/

/-- PWRBTN_N's qualifier, state by state: 20 ms of debounce each way, a drop of either change before it, and a button
held through part reset waiting for its release (R180). A debounce expiry that is not yet due and a pin command that
names the level the pin has change nothing (entry 2), and before the load event the pin moves alone (entry 9); these are
the model's choices. -/
def Obligations.ButtonQualifierTable : Prop :=
  (∀ (s : State) (level : Level), s.isUp = false →
    exec (.pwrbtnChange level) s = .next { s with pins := { s.pins with pwrbtn := level } })
  ∧ ∀ s : State, s.isUp = true →
    exec (.pwrbtnChange s.pins.pwrbtn) s = .next s
    ∧ (∀ level, s.pins.pwrbtn ≠ level → exec (.pwrbtnChange level) s = .next { s with
      pins := { s.pins with pwrbtn := level }
      panel := match s.panel.button, level with
        | .released, .low => { s.panel with button := .pressDebounce, debounce := some (s.now + 20) }
        | .releaseDebounce, .low => { s.panel with button := .pressed, debounce := none }
        | .waitRelease, .low => { s.panel with debounce := none }
        | .pressDebounce, .high => { s.panel with button := .released, debounce := none }
        | .pressed, .high => { s.panel with button := .releaseDebounce, debounce := some (s.now + 20) }
        | .waitRelease, .high => { s.panel with debounce := some (s.now + 20) }
        | _, _ => s.panel })
    ∧ (s.panel.button = .waitRelease → (∃ t, s.panel.debounce = some t ∧ t ≤ s.now) →
      exec .buttonDebounceExpiry s =
        .next { s with panel := { s.panel with button := .released, debounce := none, press := none } })
    ∧ ((∀ t, s.panel.debounce = some t → s.now < t) → exec .buttonDebounceExpiry s = .next s)

/-- A qualified press opens its record, starts the hold timer and hands over a BUTTON arrival (R181). A release after
a short press that found the platform WORKING posts BUTTON with the press length; any other release posts nothing
(R182). A press held for its hold time is spent and begins an emergency off with cause LONG_PRESS, but for an IDLE
board in OFF and in DRAINING, where it does nothing more (R153, R183). A hold expiry that is not yet due changes
nothing, which is the model's choice (entry 2). -/
def Obligations.PressesAreTaken : Prop :=
  (∀ (s : State) (t : Nat), s.panel.debounce = some t → t ≤ s.now →
    (s.panel.button = .pressDebounce → exec .buttonDebounceExpiry s = .next (finish s { s with
      panel := { s.panel with
        button := .pressed, debounce := none
        press := some ⟨s.cfg.settings.holdTime, s.board.platform == .working, s.board.phase,
          if s.board.phase = .lowering ∨ s.board.phase = .raising ∨ s.board.phase = .reversing
            then s.board.record.map Record.kind else none, s.now, false⟩
        holdTimer := some (s.now + 1000 * s.cfg.settings.holdTime) }
      board := arrive s.env s.board 8 }))
    ∧ ∀ p, s.panel.button = .releaseDebounce → s.panel.press = some p →
      let panel := { s.panel with button := .released, debounce := none, press := none, holdTimer := none }
      exec .buttonDebounceExpiry s = if p.working = true ∧ p.spent = false then .next { s with
          panel := panel
          board := { s.board with
            notices := postInto s.board.notices (.button (s.now - p.qualifiedAt + 20) p.phase p.transition) }
          link := { s.link with attnLow := true } }
        else .next { s with panel := panel })
  ∧ ∀ s : State,
    (∀ t, s.panel.holdTimer = some t → t ≤ s.now → exec .holdTimerExpiry s = .next (finish s { s with
      panel := { s.panel with press := s.panel.press.map (fun p => { p with spent := true }), holdTimer := none }
      board := if s.board.phase = .draining ∨ (s.board.phase = .idle ∧ s.board.platform = .off) then s.board
        else emergencyOff s.env s.board .longPress none }))
    ∧ ((∀ t, s.panel.holdTimer = some t → s.now < t) → exec .holdTimerExpiry s = .next s)

/-- The patterns (R185), the wanted pattern by the first row that matches (R186), and when a pattern starts: at once
out of a steady one, at the end of the running segment out of a segmented one (R187). A segment expiry that is not yet
due changes nothing, which is the model's choice (entry 2). -/
def Obligations.IndicatorPatterns : Prop :=
  (∀ p : Pattern, p.segments = match p with
    | .steadyOn | .steadyOff => []
    | .slow => [(true, 1000), (false, 1000)]
    | .fast => [(true, 125), (false, 125)]
    | .code2 => (List.replicate 1 [(true, 200), (false, 200)]).flatten ++ [(true, 200), (false, 1800)]
    | .code3 => (List.replicate 2 [(true, 200), (false, 200)]).flatten ++ [(true, 200), (false, 1800)]
    | .code4 => (List.replicate 3 [(true, 200), (false, 200)]).flatten ++ [(true, 200), (false, 1800)])
  ∧ (∀ (unconfigured : Bool) (b : Board), wantedPattern unconfigured b =
    if unconfigured then .code4 else if b.phase ≠ .idle then .fast else if b.lockout = .resume then .code2
    else if b.lockout = .thermal then .code3 else if b.platform = .working then .steadyOn
    else if b.platform = .doze then .slow else .steadyOff)
  ∧ (∀ (p : Panel) (wanted : Pattern) (now : Nat), p.want wanted now =
    if wanted = p.pattern then { p with next := none }
    else if p.pattern = .steadyOn ∨ p.pattern = .steadyOff then { p with
      pattern := wanted, next := none
      segment := match wanted.segments with
        | [] => none
        | first :: _ => some ⟨0, now + first.2⟩ }
    else { p with next := some wanted })
  ∧ (∀ (s : State) (g : Segment) (len : Nat), s.panel.segment = some g → g.expiry ≤ s.now →
      s.panel.pattern.segments.length = len → g.index < len → s.panel.next = none →
      ∃ lit time, s.panel.pattern.segments[(g.index + 1) % len]? = some (lit, time)
        ∧ exec .segmentExpiry s = .next { s with
          panel := { s.panel with segment := some ⟨(g.index + 1) % len, s.now + time⟩ }, ledOn := lit })
  ∧ (∀ (s : State) (g : Segment) (wanted : Pattern), s.panel.segment = some g → g.expiry ≤ s.now →
      s.panel.next = some wanted → exec .segmentExpiry s = .next { s with
        panel := { s.panel with
          pattern := wanted, next := none
          segment := match wanted.segments with
            | [] => none
            | first :: _ => some ⟨0, s.now + first.2⟩ }
        ledOn := (wanted != .steadyOff) })
  ∧ ∀ s : State, (∀ g, s.panel.segment = some g → s.now < g.expiry) → exec .segmentExpiry s = .next s

/-! ### ACOK and HOTSHUT_N -/

/-- Each supply input is taken after 2 ms at a new level, and a return before that drops the change (R160). A falling
ACOK posts ACFAIL and begins an emergency off in WORKING and in any transition; a rising one only lets the claims be
examined. HOTSHUT_N begins an emergency off, or in DRAINING sets the thermal mark; its release changes its level alone
(R161, R162, R164). A filter expiry that is not yet due and a pin command that names the level the pin has change nothing
(entry 2), and before the load event a pin moves alone (entry 9); these are the model's choices. -/
def Obligations.SupplyInputsAreFilteredAndTaken : Prop :=
  (∀ (s : State) (level : Level), s.isUp = false →
    exec (.inputPinChange .acok level) s = .next { s with pins := { s.pins with acok := level } }
    ∧ exec (.inputPinChange .hotshut level) s = .next { s with pins := { s.pins with hotshut := level } })
  ∧ (∀ s : State, s.isUp = true →
    exec (.inputPinChange .acok s.pins.acok) s = .next s
    ∧ exec (.inputPinChange .hotshut s.pins.hotshut) s = .next s
    ∧ (∀ level, s.pins.acok ≠ level → exec (.inputPinChange .acok level) s = .next { s with
      pins := { s.pins with acok := level }
      inputs := { s.inputs with
        acokFilter := if (level = .high ↔ s.inputs.acokHigh = true) then none else some (s.now + 2) } })
    ∧ (∀ level, s.pins.hotshut ≠ level → exec (.inputPinChange .hotshut level) s = .next { s with
      pins := { s.pins with hotshut := level }
      inputs := { s.inputs with
        hotshutFilter := if (level = .low ↔ s.inputs.hotshutActive = true) then none else some (s.now + 2) } })
    ∧ ((∀ t, s.inputs.acokFilter = some t → s.now < t) → exec (.inputFilterExpiry .acok) s = .next s)
    ∧ ((∀ t, s.inputs.hotshutFilter = some t → s.now < t) → exec (.inputFilterExpiry .hotshut) s = .next s))
  ∧ ∀ (s : State) (t : Nat), t ≤ s.now →
    let moving : Bool := s.board.phase = .lowering ∨ s.board.phase = .raising ∨ s.board.phase = .reversing
    (s.inputs.acokFilter = some t → s.pins.acok = .low → exec (.inputFilterExpiry .acok) s =
      let e := { s.env with acokHigh := false }
      let begins : Bool := moving || (s.board.phase = .idle ∧ s.board.platform = .working)
      let posted := { s.board with
        notices := postInto s.board.notices (.acfail s.board.platform s.board.phase begins) }
      .next (finish s { s with
        inputs := { s.inputs with acokHigh := false, acokFilter := none }
        board := if begins then emergencyOff e posted .acfail none else posted }))
    ∧ (s.inputs.acokFilter = some t → s.pins.acok = .high → exec (.inputFilterExpiry .acok) s =
      .next (finish s { s with inputs := { s.inputs with acokHigh := true, acokFilter := none } }))
    ∧ (s.inputs.hotshutFilter = some t → s.pins.hotshut = .low → exec (.inputFilterExpiry .hotshut) s =
      let e := { s.env with hotshutActive := true }
      .next (finish s { s with
        inputs := { s.inputs with hotshutActive := true, hotshutFilter := none }
        board := if s.board.phase = .draining then { s.board with thermalMark := true }
          else emergencyOff e s.board .thermal none }))
    ∧ (s.inputs.hotshutFilter = some t → s.pins.hotshut = .high → exec (.inputFilterExpiry .hotshut) s =
      .next { s with inputs := { s.inputs with hotshutActive := false, hotshutFilter := none } })


/-! ### The two long timers -/

/-- The dwell's expiry makes the chain claim ready; the watchdog warns once at three quarters of its deadline with the
time remaining, and at its deadline disarms, counts and makes the recovery claim ready (R165, R167, R171, R174, R176).
What is not yet due changes nothing (entry 2), and the counter stops at 3 (entry 32); both are the model's. -/
def Obligations.LongTimersExpire : Prop :=
  ∀ s : State,
    (∀ m t, s.board.dwell = .running m t → exec .dwellExpiry s =
      if t ≤ s.now then .next (finish s { s with board := { s.board with dwell := .expired } }) else .next s)
    ∧ ((s.board.dwell = .none ∨ s.board.dwell = .expired) → exec .dwellExpiry s = .next s)
    ∧ (∀ d a kind outcome, s.board.watchdog = .armed d a false kind outcome → exec .watchdogWarn s =
      if a + d * 3 / 4 ≤ s.now then .next { s with
        board := { s.board with
          watchdog := .armed d a true kind outcome
          notices := postInto s.board.notices (.warn (d - d * 3 / 4) s.board.counter kind outcome) }
        link := { s.link with attnLow := true } }
      else .next s)
    ∧ (∀ d a warned kind outcome, s.board.watchdog = .armed d a warned kind outcome →
      (warned = true → exec .watchdogWarn s = .next s)
      ∧ exec .watchdogExpiry s =
        if a + d ≤ s.now then .next (finish s { s with board := { s.board with
          watchdog := .disarmed, counter := min 3 (s.board.counter + 1), recovery := true } })
        else .next s)
    ∧ (s.board.watchdog = .disarmed → exec .watchdogWarn s = .next s ∧ exec .watchdogExpiry s = .next s)

/-! ### Part reset and start-up -/

/-- What part reset leaves: the engine IDLE in OFF with nothing in progress, every line released, every node OFF, the
link empty and silent, and the stored image, invalid when a SAVE was running. How long reset is held and the values
the manual does not state are the model's (entries 6, 7, 8 and 9). -/
def Obligations.PartResetLeaves : Prop :=
  ∀ (s : State) (held : Nat), ∃ t, exec (.partReset held) s = .next t
    ∧ t.startup = .awaitLoad (s.now + held) ∧ t.now = s.now ∧ t.pending = s.pending ∧ t.pins = s.pins
    ∧ t.board.platform = .off ∧ t.board.phase = .idle ∧ t.board.record = none ∧ t.board.last = none
    ∧ t.board.stepHold = false ∧ t.board.held = false ∧ t.board.issue = [] ∧ t.board.stack = []
    ∧ t.board.followOn = none ∧ t.board.inUse = 0 ∧ t.board.pointer = 19 ∧ t.board.wakes = []
    ∧ t.board.lockout = .none ∧ t.board.cause = none ∧ t.board.thermalMark = false ∧ t.board.acRestore = false
    ∧ t.board.dwell = .none ∧ t.board.watchdog = .disarmed ∧ t.board.recovery = false ∧ t.board.counter = 0
    ∧ t.board.notices = [] ∧ (∀ o, t.board.outs.get o = .released)
    ∧ (∀ i, t.board.stateOf i = .off ∧ (t.board.node i).lastSample = none ∧ (t.board.node i).lastClass = .none
        ∧ (t.board.node i).saturated = false ∧ (t.board.node i).unobserved = false
        ∧ (t.board.node i).deadline = none ∧ (t.board.node i).ending = .off ∧ (t.board.node i).failure = false
        ∧ (t.board.node i).forced = false ∧ (t.board.node i).inCount = 0 ∧ (t.board.node i).overCount = 0
        ∧ (t.board.node i).badCount = 0 ∧ (t.board.node i).offCount = 0)
    ∧ t.monitor.mode = .sleep ∧ t.monitor.converter = .unpowered ∧ t.monitor.nextRound = none
    ∧ t.panel.pattern = .steadyOff ∧ t.panel.segment = none ∧ t.panel.next = none ∧ t.panel.press = none
    ∧ t.panel.debounce = none ∧ t.panel.holdTimer = none ∧ t.ledOn = false
    ∧ t.link.reply = none ∧ t.link.read = none ∧ t.link.attnLow = false
    ∧ t.store.saving = none ∧ t.store.image = (if s.store.saving.isSome then .torn else s.store.image)

/-- The load event. Before reset has ended and once running the command changes nothing (entries 2, 8), and the levels
it carries become the pins' levels (entry 9): these are the model's choices. Else the image is taken or the part is
UNCONFIGURED, and the part stands as R202 lists it, with nothing in progress, the first sleep round one interval away
(R91) and no mark set, THERMAL-locked when HOTSHUT_N is low, with the STORE notice posted; a loaded part with
no lockout then starts the RELEVEL of origin START (R31, R39, R77, R111, R160, R180, R202, R206). -/
def Obligations.LoadEventStartsThePart : Prop :=
  ∀ (s : State) (pins : Pins),
    (s.startup = .running → exec (.loadEvent pins) s = .next s)
    ∧ ∀ t, s.startup = .awaitLoad t →
      (s.now < t → exec (.loadEvent pins) s = .next s)
      ∧ (t ≤ s.now → ∃ l,
        exec (.loadEvent pins) s = .next (finish l
          (if loadResult s.store.image = .ok ∧ pins.hotshut = .high then { l with
            board := start l.env { l.board with acRestore := l.cfg.settings.acPolicy == .powerOn } .relevel .off .start
              none none }
          else l))
        ∧ l.startup = .running ∧ l.pins = pins ∧ l.now = s.now ∧ l.pending = s.pending
        ∧ l.store = ⟨s.store.image, none, loadResult s.store.image != .ok⟩
        ∧ l.cfg = (match s.store.image with
          | .bytes image => if loadResult (.bytes image) = .ok then decodeImage image else .default
          | .noMarker | .torn => .default)
        ∧ l.board.platform = .off ∧ l.board.phase = .idle ∧ l.board.record = none ∧ l.board.last = none
        ∧ l.board.lockout = (if pins.hotshut = .low then .thermal else .none)
        ∧ l.board.notices = [⟨.store .load (loadResult s.store.image), 1, false⟩]
        ∧ l.board.wakes = [] ∧ l.board.counter = 0 ∧ l.board.stepHold = false ∧ l.board.inUse = 0
        ∧ l.board.pointer = 19 ∧ l.board.dwell = .none ∧ l.board.watchdog = .disarmed
        ∧ l.board.followOn = none ∧ l.board.recovery = false ∧ l.board.cause = none ∧ l.board.thermalMark = false
        ∧ l.board.acRestore = false ∧ l.board.stack = [] ∧ l.board.issue = [] ∧ l.board.held = false
        ∧ l.board.reversible = false ∧ l.board.requestedDwell = none
        ∧ (∀ i,
            let n := l.board.node i
            n.state = .off ∧ n.retriesLeft = retriesOf (l.cfg.node i) ∧ n.lastSample = none ∧ n.lastClass = .none
            ∧ n.saturated = false ∧ n.unobserved = false ∧ n.inCount = 0 ∧ n.overCount = 0 ∧ n.badCount = 0
            ∧ n.offCount = 0 ∧ n.deadline = none ∧ n.ending = .off ∧ n.failure = false ∧ n.forced = false
            ∧ n.charge = 0 ∧ n.member = none ∧ n.levelBlocked = false ∧ n.target = false ∧ n.startLevel = false)
        ∧ l.monitor = ⟨.sleep, .unpowered, some (s.now + l.cfg.settings.sleepInterval), none⟩
        ∧ (outputsUnique l.cfg → linesAgree l.cfg l.board)
        ∧ l.inputs = ⟨pins.acok == .high, pins.hotshut == .low, none, none⟩
        ∧ (∀ k, l.qual k = if ((l.cfg.line k).mode = .levelHigh ∧ pins.wk.get k = .high)
              ∨ ((l.cfg.line k).mode = .levelLow ∧ pins.wk.get k = .low)
            then ⟨.debouncing, some (s.now + (l.cfg.line k).debounce), 0, none⟩ else ⟨.idle, none, 0, none⟩)
        ∧ l.panel.button = (if pins.pwrbtn = .low then .waitRelease else .released) ∧ l.panel.pattern = .steadyOff
        ∧ l.panel.debounce = none ∧ l.panel.press = none ∧ l.panel.holdTimer = none ∧ l.panel.segment = none
        ∧ l.panel.next = none ∧ l.ledOn = false
        ∧ l.link.addrHigh = (pins.addr == .high) ∧ l.link.reply = none ∧ l.link.read = none ∧ l.link.attnLow = true)

/-- The image a SAVE writes is 742 bytes, passes its own check, and a load takes from it exactly the working
configuration that was saved (R201, R202, R204). -/
def Obligations.SavedImagesLoadBack : Prop :=
  ∀ cfg : WorkingConfig, cfg.inRange →
    (encodeImage cfg).length = 742 ∧ loadResult (.bytes (encodeImage cfg)) = .ok
    ∧ loadedConfig (.bytes (encodeImage cfg)) = cfg

/-! ### Laws every step keeps -/

/-- At most one notice of each kind, counts in 1..255, ATTN_N low exactly while something waits (R195, R196). -/
def Obligations.LinkLawsAreKept : Prop :=
  ∀ s t : State, LinkInv s → step s = .next t → LinkInv t

/-- Each source at most once on the pending wake list, the resume failure counter in 0..3; each node at most once on
the rollback stack; stack, issue list and held action only in a transition (R14, R26, R121, R129, R142). Between events
`listedNow`, the model's own (entry 21), is empty. -/
def Obligations.ListLawsAreKept : Prop :=
  ∀ s t : State, step s = .next t → (WakeInv s → WakeInv t) ∧ (StackInv s → StackInv t)

/-- The engine's record, marks and claims, the lockout, the dwell, the watchdog, the AC restore mark and UNCONFIGURED
stand together as the manual says (R1 to R4, R23, R147, R163, R165, R171). -/
def Obligations.EngineLawsAreKept : Prop :=
  ∀ s t : State, EngineInv s → step s = .next t → EngineInv t

/-- The switch context of every node fits its state, and the budget in use is the sum of the charges (R54, R75, R78,
R100, R102). -/
def Obligations.SwitchLawsAreKept : Prop :=
  ∀ s t : State, SwitchInv s → step s = .next t → SwitchInv t

/-- Every output line is at the level its node's state names, unbound lines are released, and no output line, analog
channel or digital input is bound twice, in the working table, in the table a SAVE is writing and in the table a load
would take (R31, R33, R52). -/
def Obligations.LinesAgreeWithNodeStates : Prop :=
  ∀ s t : State, OutputsInv s → step s = .next t → OutputsInv t

/-- All of these laws, and the two below, hold right after part reset. -/
def Obligations.LawsHoldAtReset : Prop :=
  LinkInv State.reset ∧ WakeInv State.reset ∧ StackInv State.reset ∧ EngineInv State.reset ∧ SwitchInv State.reset
    ∧ OutputsInv State.reset ∧ OrderInv State.reset ∧ BudgetInv State.reset

/-- The prerequisite law: a node whose output is on has every prerequisite GOOD (R53). Every step keeps it together
with what each phase says of waiting and rising nodes (`OrderInv`, whose first part is the law), under the laws of the
switch. That a transition marked as empty has no member is the model's own (R21, entry 33). -/
def Obligations.PrerequisitesStayGood : Prop :=
  ∀ s t : State, SwitchInv s → OrderInv s → step s = .next t → OrderInv t ∧ PrereqLaw t

/-- The budget law: the rails in RAMPING fit the inrush budget, but for one oversized rail alone (R79). Every step
keeps it together with the charges of the ramping rails (`BudgetInv`, whose first part is the law), under the laws of
the switch and of the order. -/
def Obligations.InrushStaysInBudget : Prop :=
  ∀ s t : State, SwitchInv s → OrderInv s → BudgetInv s → step s = .next t → BudgetInv t ∧ BudgetLaw t

end
end

