-- ==== Sys2Proof/Laws/State.lean ====
section
/-! SUPPORT. One lemma per field per update: what a named update of the board or of the state leaves in each field. -/

namespace Sys2Proof.Machine

/-! ### setNode -/

@[simp] theorem setNode_nodes (b : Board) (i : Slot) (n : Node) :
    (b.setNode i n).nodes = b.nodes.set i.val n i.isLt := rfl

@[simp] theorem setNode_outs (b : Board) (i : Slot) (n : Node) :
    (b.setNode i n).outs = b.outs := rfl

@[simp] theorem setNode_platform (b : Board) (i : Slot) (n : Node) :
    (b.setNode i n).platform = b.platform := rfl

@[simp] theorem setNode_phase (b : Board) (i : Slot) (n : Node) :
    (b.setNode i n).phase = b.phase := rfl

@[simp] theorem setNode_record (b : Board) (i : Slot) (n : Node) :
    (b.setNode i n).record = b.record := rfl

@[simp] theorem setNode_startedAt (b : Board) (i : Slot) (n : Node) :
    (b.setNode i n).startedAt = b.startedAt := rfl

@[simp] theorem setNode_last (b : Board) (i : Slot) (n : Node) :
    (b.setNode i n).last = b.last := rfl

@[simp] theorem setNode_stepHold (b : Board) (i : Slot) (n : Node) :
    (b.setNode i n).stepHold = b.stepHold := rfl

@[simp] theorem setNode_held (b : Board) (i : Slot) (n : Node) :
    (b.setNode i n).held = b.held := rfl

@[simp] theorem setNode_issue (b : Board) (i : Slot) (n : Node) :
    (b.setNode i n).issue = b.issue := rfl

@[simp] theorem setNode_listedNow (b : Board) (i : Slot) (n : Node) :
    (b.setNode i n).listedNow = b.listedNow := rfl

@[simp] theorem setNode_emptyChange (b : Board) (i : Slot) (n : Node) :
    (b.setNode i n).emptyChange = b.emptyChange := rfl

@[simp] theorem setNode_blockTest (b : Board) (i : Slot) (n : Node) :
    (b.setNode i n).blockTest = b.blockTest := rfl

@[simp] theorem setNode_stack (b : Board) (i : Slot) (n : Node) :
    (b.setNode i n).stack = b.stack := rfl

@[simp] theorem setNode_reversible (b : Board) (i : Slot) (n : Node) :
    (b.setNode i n).reversible = b.reversible := rfl

@[simp] theorem setNode_requestedDwell (b : Board) (i : Slot) (n : Node) :
    (b.setNode i n).requestedDwell = b.requestedDwell := rfl

@[simp] theorem setNode_followOn (b : Board) (i : Slot) (n : Node) :
    (b.setNode i n).followOn = b.followOn := rfl

@[simp] theorem setNode_inUse (b : Board) (i : Slot) (n : Node) :
    (b.setNode i n).inUse = b.inUse := rfl

@[simp] theorem setNode_pointer (b : Board) (i : Slot) (n : Node) :
    (b.setNode i n).pointer = b.pointer := rfl

@[simp] theorem setNode_wakes (b : Board) (i : Slot) (n : Node) :
    (b.setNode i n).wakes = b.wakes := rfl

@[simp] theorem setNode_lockout (b : Board) (i : Slot) (n : Node) :
    (b.setNode i n).lockout = b.lockout := rfl

@[simp] theorem setNode_cause (b : Board) (i : Slot) (n : Node) :
    (b.setNode i n).cause = b.cause := rfl

@[simp] theorem setNode_thermalMark (b : Board) (i : Slot) (n : Node) :
    (b.setNode i n).thermalMark = b.thermalMark := rfl

@[simp] theorem setNode_acRestore (b : Board) (i : Slot) (n : Node) :
    (b.setNode i n).acRestore = b.acRestore := rfl

@[simp] theorem setNode_dwell (b : Board) (i : Slot) (n : Node) :
    (b.setNode i n).dwell = b.dwell := rfl

@[simp] theorem setNode_watchdog (b : Board) (i : Slot) (n : Node) :
    (b.setNode i n).watchdog = b.watchdog := rfl

@[simp] theorem setNode_recovery (b : Board) (i : Slot) (n : Node) :
    (b.setNode i n).recovery = b.recovery := rfl

@[simp] theorem setNode_counter (b : Board) (i : Slot) (n : Node) :
    (b.setNode i n).counter = b.counter := rfl

@[simp] theorem setNode_notices (b : Board) (i : Slot) (n : Node) :
    (b.setNode i n).notices = b.notices := rfl

/-! ### updNode -/

@[simp] theorem updNode_nodes (b : Board) (i : Slot) (f : Node → Node) :
    (b.updNode i f).nodes = b.nodes.set i.val (f (b.node i)) i.isLt := rfl

@[simp] theorem updNode_outs (b : Board) (i : Slot) (f : Node → Node) :
    (b.updNode i f).outs = b.outs := rfl

@[simp] theorem updNode_platform (b : Board) (i : Slot) (f : Node → Node) :
    (b.updNode i f).platform = b.platform := rfl

@[simp] theorem updNode_phase (b : Board) (i : Slot) (f : Node → Node) :
    (b.updNode i f).phase = b.phase := rfl

@[simp] theorem updNode_record (b : Board) (i : Slot) (f : Node → Node) :
    (b.updNode i f).record = b.record := rfl

@[simp] theorem updNode_startedAt (b : Board) (i : Slot) (f : Node → Node) :
    (b.updNode i f).startedAt = b.startedAt := rfl

@[simp] theorem updNode_last (b : Board) (i : Slot) (f : Node → Node) :
    (b.updNode i f).last = b.last := rfl

@[simp] theorem updNode_stepHold (b : Board) (i : Slot) (f : Node → Node) :
    (b.updNode i f).stepHold = b.stepHold := rfl

@[simp] theorem updNode_held (b : Board) (i : Slot) (f : Node → Node) :
    (b.updNode i f).held = b.held := rfl

@[simp] theorem updNode_issue (b : Board) (i : Slot) (f : Node → Node) :
    (b.updNode i f).issue = b.issue := rfl

@[simp] theorem updNode_listedNow (b : Board) (i : Slot) (f : Node → Node) :
    (b.updNode i f).listedNow = b.listedNow := rfl

@[simp] theorem updNode_emptyChange (b : Board) (i : Slot) (f : Node → Node) :
    (b.updNode i f).emptyChange = b.emptyChange := rfl

@[simp] theorem updNode_blockTest (b : Board) (i : Slot) (f : Node → Node) :
    (b.updNode i f).blockTest = b.blockTest := rfl

@[simp] theorem updNode_stack (b : Board) (i : Slot) (f : Node → Node) :
    (b.updNode i f).stack = b.stack := rfl

@[simp] theorem updNode_reversible (b : Board) (i : Slot) (f : Node → Node) :
    (b.updNode i f).reversible = b.reversible := rfl

@[simp] theorem updNode_requestedDwell (b : Board) (i : Slot) (f : Node → Node) :
    (b.updNode i f).requestedDwell = b.requestedDwell := rfl

@[simp] theorem updNode_followOn (b : Board) (i : Slot) (f : Node → Node) :
    (b.updNode i f).followOn = b.followOn := rfl

@[simp] theorem updNode_inUse (b : Board) (i : Slot) (f : Node → Node) :
    (b.updNode i f).inUse = b.inUse := rfl

@[simp] theorem updNode_pointer (b : Board) (i : Slot) (f : Node → Node) :
    (b.updNode i f).pointer = b.pointer := rfl

@[simp] theorem updNode_wakes (b : Board) (i : Slot) (f : Node → Node) :
    (b.updNode i f).wakes = b.wakes := rfl

@[simp] theorem updNode_lockout (b : Board) (i : Slot) (f : Node → Node) :
    (b.updNode i f).lockout = b.lockout := rfl

@[simp] theorem updNode_cause (b : Board) (i : Slot) (f : Node → Node) :
    (b.updNode i f).cause = b.cause := rfl

@[simp] theorem updNode_thermalMark (b : Board) (i : Slot) (f : Node → Node) :
    (b.updNode i f).thermalMark = b.thermalMark := rfl

@[simp] theorem updNode_acRestore (b : Board) (i : Slot) (f : Node → Node) :
    (b.updNode i f).acRestore = b.acRestore := rfl

@[simp] theorem updNode_dwell (b : Board) (i : Slot) (f : Node → Node) :
    (b.updNode i f).dwell = b.dwell := rfl

@[simp] theorem updNode_watchdog (b : Board) (i : Slot) (f : Node → Node) :
    (b.updNode i f).watchdog = b.watchdog := rfl

@[simp] theorem updNode_recovery (b : Board) (i : Slot) (f : Node → Node) :
    (b.updNode i f).recovery = b.recovery := rfl

@[simp] theorem updNode_counter (b : Board) (i : Slot) (f : Node → Node) :
    (b.updNode i f).counter = b.counter := rfl

@[simp] theorem updNode_notices (b : Board) (i : Slot) (f : Node → Node) :
    (b.updNode i f).notices = b.notices := rfl

/-! ### drive -/

@[simp] theorem drive_nodes (b : Board) (o : Fin 16) (d : Drive) :
    (b.drive o d).nodes = b.nodes := rfl

@[simp] theorem drive_outs (b : Board) (o : Fin 16) (d : Drive) :
    (b.drive o d).outs = b.outs.set o.val d o.isLt := rfl

@[simp] theorem drive_platform (b : Board) (o : Fin 16) (d : Drive) :
    (b.drive o d).platform = b.platform := rfl

@[simp] theorem drive_phase (b : Board) (o : Fin 16) (d : Drive) :
    (b.drive o d).phase = b.phase := rfl

@[simp] theorem drive_record (b : Board) (o : Fin 16) (d : Drive) :
    (b.drive o d).record = b.record := rfl

@[simp] theorem drive_startedAt (b : Board) (o : Fin 16) (d : Drive) :
    (b.drive o d).startedAt = b.startedAt := rfl

@[simp] theorem drive_last (b : Board) (o : Fin 16) (d : Drive) :
    (b.drive o d).last = b.last := rfl

@[simp] theorem drive_stepHold (b : Board) (o : Fin 16) (d : Drive) :
    (b.drive o d).stepHold = b.stepHold := rfl

@[simp] theorem drive_held (b : Board) (o : Fin 16) (d : Drive) :
    (b.drive o d).held = b.held := rfl

@[simp] theorem drive_issue (b : Board) (o : Fin 16) (d : Drive) :
    (b.drive o d).issue = b.issue := rfl

@[simp] theorem drive_listedNow (b : Board) (o : Fin 16) (d : Drive) :
    (b.drive o d).listedNow = b.listedNow := rfl

@[simp] theorem drive_emptyChange (b : Board) (o : Fin 16) (d : Drive) :
    (b.drive o d).emptyChange = b.emptyChange := rfl

@[simp] theorem drive_blockTest (b : Board) (o : Fin 16) (d : Drive) :
    (b.drive o d).blockTest = b.blockTest := rfl

@[simp] theorem drive_stack (b : Board) (o : Fin 16) (d : Drive) :
    (b.drive o d).stack = b.stack := rfl

@[simp] theorem drive_reversible (b : Board) (o : Fin 16) (d : Drive) :
    (b.drive o d).reversible = b.reversible := rfl

@[simp] theorem drive_requestedDwell (b : Board) (o : Fin 16) (d : Drive) :
    (b.drive o d).requestedDwell = b.requestedDwell := rfl

@[simp] theorem drive_followOn (b : Board) (o : Fin 16) (d : Drive) :
    (b.drive o d).followOn = b.followOn := rfl

@[simp] theorem drive_inUse (b : Board) (o : Fin 16) (d : Drive) :
    (b.drive o d).inUse = b.inUse := rfl

@[simp] theorem drive_pointer (b : Board) (o : Fin 16) (d : Drive) :
    (b.drive o d).pointer = b.pointer := rfl

@[simp] theorem drive_wakes (b : Board) (o : Fin 16) (d : Drive) :
    (b.drive o d).wakes = b.wakes := rfl

@[simp] theorem drive_lockout (b : Board) (o : Fin 16) (d : Drive) :
    (b.drive o d).lockout = b.lockout := rfl

@[simp] theorem drive_cause (b : Board) (o : Fin 16) (d : Drive) :
    (b.drive o d).cause = b.cause := rfl

@[simp] theorem drive_thermalMark (b : Board) (o : Fin 16) (d : Drive) :
    (b.drive o d).thermalMark = b.thermalMark := rfl

@[simp] theorem drive_acRestore (b : Board) (o : Fin 16) (d : Drive) :
    (b.drive o d).acRestore = b.acRestore := rfl

@[simp] theorem drive_dwell (b : Board) (o : Fin 16) (d : Drive) :
    (b.drive o d).dwell = b.dwell := rfl

@[simp] theorem drive_watchdog (b : Board) (o : Fin 16) (d : Drive) :
    (b.drive o d).watchdog = b.watchdog := rfl

@[simp] theorem drive_recovery (b : Board) (o : Fin 16) (d : Drive) :
    (b.drive o d).recovery = b.recovery := rfl

@[simp] theorem drive_counter (b : Board) (o : Fin 16) (d : Drive) :
    (b.drive o d).counter = b.counter := rfl

@[simp] theorem drive_notices (b : Board) (o : Fin 16) (d : Drive) :
    (b.drive o d).notices = b.notices := rfl

/-! ### post -/

@[simp] theorem post_nodes (b : Board) (n : Notice) :
    (b.post n).nodes = b.nodes := rfl

@[simp] theorem post_outs (b : Board) (n : Notice) :
    (b.post n).outs = b.outs := rfl

@[simp] theorem post_platform (b : Board) (n : Notice) :
    (b.post n).platform = b.platform := rfl

@[simp] theorem post_phase (b : Board) (n : Notice) :
    (b.post n).phase = b.phase := rfl

@[simp] theorem post_record (b : Board) (n : Notice) :
    (b.post n).record = b.record := rfl

@[simp] theorem post_startedAt (b : Board) (n : Notice) :
    (b.post n).startedAt = b.startedAt := rfl

@[simp] theorem post_last (b : Board) (n : Notice) :
    (b.post n).last = b.last := rfl

@[simp] theorem post_stepHold (b : Board) (n : Notice) :
    (b.post n).stepHold = b.stepHold := rfl

@[simp] theorem post_held (b : Board) (n : Notice) :
    (b.post n).held = b.held := rfl

@[simp] theorem post_issue (b : Board) (n : Notice) :
    (b.post n).issue = b.issue := rfl

@[simp] theorem post_listedNow (b : Board) (n : Notice) :
    (b.post n).listedNow = b.listedNow := rfl

@[simp] theorem post_emptyChange (b : Board) (n : Notice) :
    (b.post n).emptyChange = b.emptyChange := rfl

@[simp] theorem post_blockTest (b : Board) (n : Notice) :
    (b.post n).blockTest = b.blockTest := rfl

@[simp] theorem post_stack (b : Board) (n : Notice) :
    (b.post n).stack = b.stack := rfl

@[simp] theorem post_reversible (b : Board) (n : Notice) :
    (b.post n).reversible = b.reversible := rfl

@[simp] theorem post_requestedDwell (b : Board) (n : Notice) :
    (b.post n).requestedDwell = b.requestedDwell := rfl

@[simp] theorem post_followOn (b : Board) (n : Notice) :
    (b.post n).followOn = b.followOn := rfl

@[simp] theorem post_inUse (b : Board) (n : Notice) :
    (b.post n).inUse = b.inUse := rfl

@[simp] theorem post_pointer (b : Board) (n : Notice) :
    (b.post n).pointer = b.pointer := rfl

@[simp] theorem post_wakes (b : Board) (n : Notice) :
    (b.post n).wakes = b.wakes := rfl

@[simp] theorem post_lockout (b : Board) (n : Notice) :
    (b.post n).lockout = b.lockout := rfl

@[simp] theorem post_cause (b : Board) (n : Notice) :
    (b.post n).cause = b.cause := rfl

@[simp] theorem post_thermalMark (b : Board) (n : Notice) :
    (b.post n).thermalMark = b.thermalMark := rfl

@[simp] theorem post_acRestore (b : Board) (n : Notice) :
    (b.post n).acRestore = b.acRestore := rfl

@[simp] theorem post_dwell (b : Board) (n : Notice) :
    (b.post n).dwell = b.dwell := rfl

@[simp] theorem post_watchdog (b : Board) (n : Notice) :
    (b.post n).watchdog = b.watchdog := rfl

@[simp] theorem post_recovery (b : Board) (n : Notice) :
    (b.post n).recovery = b.recovery := rfl

@[simp] theorem post_counter (b : Board) (n : Notice) :
    (b.post n).counter = b.counter := rfl

@[simp] theorem post_notices (b : Board) (n : Notice) :
    (b.post n).notices = postInto b.notices n := rfl

/-! ### enter -/

@[simp] theorem enter_nodes (cfg : WorkingConfig) (b : Board) (i : Slot) (st : NodeState) (dl : Option Deadline) :
    (enter cfg b i st dl).nodes = b.nodes.set i.val ((b.node i).withState st dl) i.isLt := rfl

@[simp] theorem enter_outs (cfg : WorkingConfig) (b : Board) (i : Slot) (st : NodeState) (dl : Option Deadline) :
    (enter cfg b i st dl).outs = outsFor cfg b.outs i st := rfl

@[simp] theorem enter_platform (cfg : WorkingConfig) (b : Board) (i : Slot) (st : NodeState) (dl : Option Deadline) :
    (enter cfg b i st dl).platform = b.platform := rfl

@[simp] theorem enter_phase (cfg : WorkingConfig) (b : Board) (i : Slot) (st : NodeState) (dl : Option Deadline) :
    (enter cfg b i st dl).phase = b.phase := rfl

@[simp] theorem enter_record (cfg : WorkingConfig) (b : Board) (i : Slot) (st : NodeState) (dl : Option Deadline) :
    (enter cfg b i st dl).record = b.record := rfl

@[simp] theorem enter_startedAt (cfg : WorkingConfig) (b : Board) (i : Slot) (st : NodeState) (dl : Option Deadline) :
    (enter cfg b i st dl).startedAt = b.startedAt := rfl

@[simp] theorem enter_last (cfg : WorkingConfig) (b : Board) (i : Slot) (st : NodeState) (dl : Option Deadline) :
    (enter cfg b i st dl).last = b.last := rfl

@[simp] theorem enter_stepHold (cfg : WorkingConfig) (b : Board) (i : Slot) (st : NodeState) (dl : Option Deadline) :
    (enter cfg b i st dl).stepHold = b.stepHold := rfl

@[simp] theorem enter_held (cfg : WorkingConfig) (b : Board) (i : Slot) (st : NodeState) (dl : Option Deadline) :
    (enter cfg b i st dl).held = b.held := rfl

@[simp] theorem enter_issue (cfg : WorkingConfig) (b : Board) (i : Slot) (st : NodeState) (dl : Option Deadline) :
    (enter cfg b i st dl).issue = b.issue := rfl

@[simp] theorem enter_listedNow (cfg : WorkingConfig) (b : Board) (i : Slot) (st : NodeState) (dl : Option Deadline) :
    (enter cfg b i st dl).listedNow = b.listedNow := rfl

@[simp] theorem enter_emptyChange (cfg : WorkingConfig) (b : Board) (i : Slot) (st : NodeState) (dl : Option Deadline) :
    (enter cfg b i st dl).emptyChange = b.emptyChange := rfl

@[simp] theorem enter_blockTest (cfg : WorkingConfig) (b : Board) (i : Slot) (st : NodeState) (dl : Option Deadline) :
    (enter cfg b i st dl).blockTest = b.blockTest := rfl

@[simp] theorem enter_stack (cfg : WorkingConfig) (b : Board) (i : Slot) (st : NodeState) (dl : Option Deadline) :
    (enter cfg b i st dl).stack = b.stack := rfl

@[simp] theorem enter_reversible (cfg : WorkingConfig) (b : Board) (i : Slot) (st : NodeState) (dl : Option Deadline) :
    (enter cfg b i st dl).reversible = b.reversible := rfl

@[simp] theorem enter_requestedDwell (cfg : WorkingConfig) (b : Board) (i : Slot) (st : NodeState) (dl : Option Deadline) :
    (enter cfg b i st dl).requestedDwell = b.requestedDwell := rfl

@[simp] theorem enter_followOn (cfg : WorkingConfig) (b : Board) (i : Slot) (st : NodeState) (dl : Option Deadline) :
    (enter cfg b i st dl).followOn = b.followOn := rfl

@[simp] theorem enter_inUse (cfg : WorkingConfig) (b : Board) (i : Slot) (st : NodeState) (dl : Option Deadline) :
    (enter cfg b i st dl).inUse = releasedBudget b.inUse (b.node i) st := rfl

@[simp] theorem enter_pointer (cfg : WorkingConfig) (b : Board) (i : Slot) (st : NodeState) (dl : Option Deadline) :
    (enter cfg b i st dl).pointer = b.pointer := rfl

@[simp] theorem enter_wakes (cfg : WorkingConfig) (b : Board) (i : Slot) (st : NodeState) (dl : Option Deadline) :
    (enter cfg b i st dl).wakes = b.wakes := rfl

@[simp] theorem enter_lockout (cfg : WorkingConfig) (b : Board) (i : Slot) (st : NodeState) (dl : Option Deadline) :
    (enter cfg b i st dl).lockout = b.lockout := rfl

@[simp] theorem enter_cause (cfg : WorkingConfig) (b : Board) (i : Slot) (st : NodeState) (dl : Option Deadline) :
    (enter cfg b i st dl).cause = b.cause := rfl

@[simp] theorem enter_thermalMark (cfg : WorkingConfig) (b : Board) (i : Slot) (st : NodeState) (dl : Option Deadline) :
    (enter cfg b i st dl).thermalMark = b.thermalMark := rfl

@[simp] theorem enter_acRestore (cfg : WorkingConfig) (b : Board) (i : Slot) (st : NodeState) (dl : Option Deadline) :
    (enter cfg b i st dl).acRestore = b.acRestore := rfl

@[simp] theorem enter_dwell (cfg : WorkingConfig) (b : Board) (i : Slot) (st : NodeState) (dl : Option Deadline) :
    (enter cfg b i st dl).dwell = b.dwell := rfl

@[simp] theorem enter_watchdog (cfg : WorkingConfig) (b : Board) (i : Slot) (st : NodeState) (dl : Option Deadline) :
    (enter cfg b i st dl).watchdog = b.watchdog := rfl

@[simp] theorem enter_recovery (cfg : WorkingConfig) (b : Board) (i : Slot) (st : NodeState) (dl : Option Deadline) :
    (enter cfg b i st dl).recovery = b.recovery := rfl

@[simp] theorem enter_counter (cfg : WorkingConfig) (b : Board) (i : Slot) (st : NodeState) (dl : Option Deadline) :
    (enter cfg b i st dl).counter = b.counter := rfl

@[simp] theorem enter_notices (cfg : WorkingConfig) (b : Board) (i : Slot) (st : NodeState) (dl : Option Deadline) :
    (enter cfg b i st dl).notices = b.notices := rfl

/-! ### setLockout -/

@[simp] theorem setLockout_nodes (b : Board) (l : Lockout) :
    (setLockout b l).nodes = b.nodes := rfl

@[simp] theorem setLockout_outs (b : Board) (l : Lockout) :
    (setLockout b l).outs = b.outs := rfl

@[simp] theorem setLockout_platform (b : Board) (l : Lockout) :
    (setLockout b l).platform = b.platform := rfl

@[simp] theorem setLockout_phase (b : Board) (l : Lockout) :
    (setLockout b l).phase = b.phase := rfl

@[simp] theorem setLockout_record (b : Board) (l : Lockout) :
    (setLockout b l).record = b.record := rfl

@[simp] theorem setLockout_startedAt (b : Board) (l : Lockout) :
    (setLockout b l).startedAt = b.startedAt := rfl

@[simp] theorem setLockout_last (b : Board) (l : Lockout) :
    (setLockout b l).last = b.last := rfl

@[simp] theorem setLockout_stepHold (b : Board) (l : Lockout) :
    (setLockout b l).stepHold = b.stepHold := rfl

@[simp] theorem setLockout_held (b : Board) (l : Lockout) :
    (setLockout b l).held = b.held := rfl

@[simp] theorem setLockout_issue (b : Board) (l : Lockout) :
    (setLockout b l).issue = b.issue := rfl

@[simp] theorem setLockout_listedNow (b : Board) (l : Lockout) :
    (setLockout b l).listedNow = b.listedNow := rfl

@[simp] theorem setLockout_emptyChange (b : Board) (l : Lockout) :
    (setLockout b l).emptyChange = b.emptyChange := rfl

@[simp] theorem setLockout_blockTest (b : Board) (l : Lockout) :
    (setLockout b l).blockTest = b.blockTest := rfl

@[simp] theorem setLockout_stack (b : Board) (l : Lockout) :
    (setLockout b l).stack = b.stack := rfl

@[simp] theorem setLockout_reversible (b : Board) (l : Lockout) :
    (setLockout b l).reversible = b.reversible := rfl

@[simp] theorem setLockout_requestedDwell (b : Board) (l : Lockout) :
    (setLockout b l).requestedDwell = b.requestedDwell := rfl

@[simp] theorem setLockout_followOn (b : Board) (l : Lockout) :
    (setLockout b l).followOn = b.followOn := rfl

@[simp] theorem setLockout_inUse (b : Board) (l : Lockout) :
    (setLockout b l).inUse = b.inUse := rfl

@[simp] theorem setLockout_pointer (b : Board) (l : Lockout) :
    (setLockout b l).pointer = b.pointer := rfl

@[simp] theorem setLockout_wakes (b : Board) (l : Lockout) :
    (setLockout b l).wakes = [] := rfl

@[simp] theorem setLockout_lockout (b : Board) (l : Lockout) :
    (setLockout b l).lockout = l := rfl

@[simp] theorem setLockout_cause (b : Board) (l : Lockout) :
    (setLockout b l).cause = b.cause := rfl

@[simp] theorem setLockout_thermalMark (b : Board) (l : Lockout) :
    (setLockout b l).thermalMark = b.thermalMark := rfl

@[simp] theorem setLockout_acRestore (b : Board) (l : Lockout) :
    (setLockout b l).acRestore = false := rfl

@[simp] theorem setLockout_dwell (b : Board) (l : Lockout) :
    (setLockout b l).dwell = b.dwell := rfl

@[simp] theorem setLockout_watchdog (b : Board) (l : Lockout) :
    (setLockout b l).watchdog = b.watchdog := rfl

@[simp] theorem setLockout_recovery (b : Board) (l : Lockout) :
    (setLockout b l).recovery = b.recovery := rfl

@[simp] theorem setLockout_counter (b : Board) (l : Lockout) :
    (setLockout b l).counter = b.counter := rfl

@[simp] theorem setLockout_notices (b : Board) (l : Lockout) :
    (setLockout b l).notices = b.notices := rfl

/-! ### pushEntry -/

@[simp] theorem pushEntry_nodes (b : Board) (i : Slot) (act : ActKind) :
    (pushEntry b i act).nodes = b.nodes := rfl

@[simp] theorem pushEntry_outs (b : Board) (i : Slot) (act : ActKind) :
    (pushEntry b i act).outs = b.outs := rfl

@[simp] theorem pushEntry_platform (b : Board) (i : Slot) (act : ActKind) :
    (pushEntry b i act).platform = b.platform := rfl

@[simp] theorem pushEntry_phase (b : Board) (i : Slot) (act : ActKind) :
    (pushEntry b i act).phase = b.phase := rfl

@[simp] theorem pushEntry_record (b : Board) (i : Slot) (act : ActKind) :
    (pushEntry b i act).record = b.record := rfl

@[simp] theorem pushEntry_startedAt (b : Board) (i : Slot) (act : ActKind) :
    (pushEntry b i act).startedAt = b.startedAt := rfl

@[simp] theorem pushEntry_last (b : Board) (i : Slot) (act : ActKind) :
    (pushEntry b i act).last = b.last := rfl

@[simp] theorem pushEntry_stepHold (b : Board) (i : Slot) (act : ActKind) :
    (pushEntry b i act).stepHold = b.stepHold := rfl

@[simp] theorem pushEntry_held (b : Board) (i : Slot) (act : ActKind) :
    (pushEntry b i act).held = b.held := rfl

@[simp] theorem pushEntry_issue (b : Board) (i : Slot) (act : ActKind) :
    (pushEntry b i act).issue = b.issue := rfl

@[simp] theorem pushEntry_listedNow (b : Board) (i : Slot) (act : ActKind) :
    (pushEntry b i act).listedNow = b.listedNow := rfl

@[simp] theorem pushEntry_emptyChange (b : Board) (i : Slot) (act : ActKind) :
    (pushEntry b i act).emptyChange = b.emptyChange := rfl

@[simp] theorem pushEntry_blockTest (b : Board) (i : Slot) (act : ActKind) :
    (pushEntry b i act).blockTest = b.blockTest := rfl

@[simp] theorem pushEntry_stack (b : Board) (i : Slot) (act : ActKind) :
    (pushEntry b i act).stack = ⟨i, act⟩ :: b.stack.filter (fun a => a.slot ≠ i) := rfl

@[simp] theorem pushEntry_reversible (b : Board) (i : Slot) (act : ActKind) :
    (pushEntry b i act).reversible = b.reversible := rfl

@[simp] theorem pushEntry_requestedDwell (b : Board) (i : Slot) (act : ActKind) :
    (pushEntry b i act).requestedDwell = b.requestedDwell := rfl

@[simp] theorem pushEntry_followOn (b : Board) (i : Slot) (act : ActKind) :
    (pushEntry b i act).followOn = b.followOn := rfl

@[simp] theorem pushEntry_inUse (b : Board) (i : Slot) (act : ActKind) :
    (pushEntry b i act).inUse = b.inUse := rfl

@[simp] theorem pushEntry_pointer (b : Board) (i : Slot) (act : ActKind) :
    (pushEntry b i act).pointer = b.pointer := rfl

@[simp] theorem pushEntry_wakes (b : Board) (i : Slot) (act : ActKind) :
    (pushEntry b i act).wakes = b.wakes := rfl

@[simp] theorem pushEntry_lockout (b : Board) (i : Slot) (act : ActKind) :
    (pushEntry b i act).lockout = b.lockout := rfl

@[simp] theorem pushEntry_cause (b : Board) (i : Slot) (act : ActKind) :
    (pushEntry b i act).cause = b.cause := rfl

@[simp] theorem pushEntry_thermalMark (b : Board) (i : Slot) (act : ActKind) :
    (pushEntry b i act).thermalMark = b.thermalMark := rfl

@[simp] theorem pushEntry_acRestore (b : Board) (i : Slot) (act : ActKind) :
    (pushEntry b i act).acRestore = b.acRestore := rfl

@[simp] theorem pushEntry_dwell (b : Board) (i : Slot) (act : ActKind) :
    (pushEntry b i act).dwell = b.dwell := rfl

@[simp] theorem pushEntry_watchdog (b : Board) (i : Slot) (act : ActKind) :
    (pushEntry b i act).watchdog = b.watchdog := rfl

@[simp] theorem pushEntry_recovery (b : Board) (i : Slot) (act : ActKind) :
    (pushEntry b i act).recovery = b.recovery := rfl

@[simp] theorem pushEntry_counter (b : Board) (i : Slot) (act : ActKind) :
    (pushEntry b i act).counter = b.counter := rfl

@[simp] theorem pushEntry_notices (b : Board) (i : Slot) (act : ActKind) :
    (pushEntry b i act).notices = b.notices := rfl

/-! ### enlist -/

@[simp] theorem enlist_nodes (b : Board) (act : ActKind) (l : List Slot) :
    (enlist b act l).nodes = b.nodes := rfl

@[simp] theorem enlist_outs (b : Board) (act : ActKind) (l : List Slot) :
    (enlist b act l).outs = b.outs := rfl

@[simp] theorem enlist_platform (b : Board) (act : ActKind) (l : List Slot) :
    (enlist b act l).platform = b.platform := rfl

@[simp] theorem enlist_phase (b : Board) (act : ActKind) (l : List Slot) :
    (enlist b act l).phase = b.phase := rfl

@[simp] theorem enlist_record (b : Board) (act : ActKind) (l : List Slot) :
    (enlist b act l).record = b.record := rfl

@[simp] theorem enlist_startedAt (b : Board) (act : ActKind) (l : List Slot) :
    (enlist b act l).startedAt = b.startedAt := rfl

@[simp] theorem enlist_last (b : Board) (act : ActKind) (l : List Slot) :
    (enlist b act l).last = b.last := rfl

@[simp] theorem enlist_stepHold (b : Board) (act : ActKind) (l : List Slot) :
    (enlist b act l).stepHold = b.stepHold := rfl

@[simp] theorem enlist_held (b : Board) (act : ActKind) (l : List Slot) :
    (enlist b act l).held = b.held := rfl

@[simp] theorem enlist_listedNow (b : Board) (act : ActKind) (l : List Slot) :
    (enlist b act l).listedNow = b.listedNow ++ l := rfl

@[simp] theorem enlist_emptyChange (b : Board) (act : ActKind) (l : List Slot) :
    (enlist b act l).emptyChange = b.emptyChange := rfl

@[simp] theorem enlist_blockTest (b : Board) (act : ActKind) (l : List Slot) :
    (enlist b act l).blockTest = b.blockTest := rfl

@[simp] theorem enlist_stack (b : Board) (act : ActKind) (l : List Slot) :
    (enlist b act l).stack = b.stack := rfl

@[simp] theorem enlist_reversible (b : Board) (act : ActKind) (l : List Slot) :
    (enlist b act l).reversible = b.reversible := rfl

@[simp] theorem enlist_requestedDwell (b : Board) (act : ActKind) (l : List Slot) :
    (enlist b act l).requestedDwell = b.requestedDwell := rfl

@[simp] theorem enlist_followOn (b : Board) (act : ActKind) (l : List Slot) :
    (enlist b act l).followOn = b.followOn := rfl

@[simp] theorem enlist_inUse (b : Board) (act : ActKind) (l : List Slot) :
    (enlist b act l).inUse = b.inUse := rfl

@[simp] theorem enlist_pointer (b : Board) (act : ActKind) (l : List Slot) :
    (enlist b act l).pointer = b.pointer := rfl

@[simp] theorem enlist_wakes (b : Board) (act : ActKind) (l : List Slot) :
    (enlist b act l).wakes = b.wakes := rfl

@[simp] theorem enlist_lockout (b : Board) (act : ActKind) (l : List Slot) :
    (enlist b act l).lockout = b.lockout := rfl

@[simp] theorem enlist_cause (b : Board) (act : ActKind) (l : List Slot) :
    (enlist b act l).cause = b.cause := rfl

@[simp] theorem enlist_thermalMark (b : Board) (act : ActKind) (l : List Slot) :
    (enlist b act l).thermalMark = b.thermalMark := rfl

@[simp] theorem enlist_acRestore (b : Board) (act : ActKind) (l : List Slot) :
    (enlist b act l).acRestore = b.acRestore := rfl

@[simp] theorem enlist_dwell (b : Board) (act : ActKind) (l : List Slot) :
    (enlist b act l).dwell = b.dwell := rfl

@[simp] theorem enlist_watchdog (b : Board) (act : ActKind) (l : List Slot) :
    (enlist b act l).watchdog = b.watchdog := rfl

@[simp] theorem enlist_recovery (b : Board) (act : ActKind) (l : List Slot) :
    (enlist b act l).recovery = b.recovery := rfl

@[simp] theorem enlist_counter (b : Board) (act : ActKind) (l : List Slot) :
    (enlist b act l).counter = b.counter := rfl

@[simp] theorem enlist_notices (b : Board) (act : ActKind) (l : List Slot) :
    (enlist b act l).notices = b.notices := rfl

/-! ### returnToIdle -/

@[simp] theorem returnToIdle_nodes (b : Board) :
    (returnToIdle b).nodes = b.nodes.map Node.clearPlan := rfl

@[simp] theorem returnToIdle_outs (b : Board) :
    (returnToIdle b).outs = b.outs := rfl

@[simp] theorem returnToIdle_platform (b : Board) :
    (returnToIdle b).platform = b.platform := rfl

@[simp] theorem returnToIdle_phase (b : Board) :
    (returnToIdle b).phase = .idle := rfl

@[simp] theorem returnToIdle_record (b : Board) :
    (returnToIdle b).record = none := rfl

@[simp] theorem returnToIdle_startedAt (b : Board) :
    (returnToIdle b).startedAt = b.startedAt := rfl

@[simp] theorem returnToIdle_last (b : Board) :
    (returnToIdle b).last = b.last := rfl

@[simp] theorem returnToIdle_stepHold (b : Board) :
    (returnToIdle b).stepHold = b.stepHold := rfl

@[simp] theorem returnToIdle_held (b : Board) :
    (returnToIdle b).held = false := rfl

@[simp] theorem returnToIdle_issue (b : Board) :
    (returnToIdle b).issue = [] := rfl

@[simp] theorem returnToIdle_listedNow (b : Board) :
    (returnToIdle b).listedNow = b.listedNow := rfl

@[simp] theorem returnToIdle_emptyChange (b : Board) :
    (returnToIdle b).emptyChange = false := rfl

@[simp] theorem returnToIdle_blockTest (b : Board) :
    (returnToIdle b).blockTest = b.blockTest := rfl

@[simp] theorem returnToIdle_stack (b : Board) :
    (returnToIdle b).stack = [] := rfl

@[simp] theorem returnToIdle_reversible (b : Board) :
    (returnToIdle b).reversible = false := rfl

@[simp] theorem returnToIdle_requestedDwell (b : Board) :
    (returnToIdle b).requestedDwell = none := rfl

@[simp] theorem returnToIdle_followOn (b : Board) :
    (returnToIdle b).followOn = b.followOn := rfl

@[simp] theorem returnToIdle_inUse (b : Board) :
    (returnToIdle b).inUse = b.inUse := rfl

@[simp] theorem returnToIdle_pointer (b : Board) :
    (returnToIdle b).pointer = b.pointer := rfl

@[simp] theorem returnToIdle_wakes (b : Board) :
    (returnToIdle b).wakes = b.wakes := rfl

@[simp] theorem returnToIdle_lockout (b : Board) :
    (returnToIdle b).lockout = b.lockout := rfl

@[simp] theorem returnToIdle_cause (b : Board) :
    (returnToIdle b).cause = b.cause := rfl

@[simp] theorem returnToIdle_thermalMark (b : Board) :
    (returnToIdle b).thermalMark = b.thermalMark := rfl

@[simp] theorem returnToIdle_acRestore (b : Board) :
    (returnToIdle b).acRestore = b.acRestore := rfl

@[simp] theorem returnToIdle_dwell (b : Board) :
    (returnToIdle b).dwell = b.dwell := rfl

@[simp] theorem returnToIdle_watchdog (b : Board) :
    (returnToIdle b).watchdog = b.watchdog := rfl

@[simp] theorem returnToIdle_recovery (b : Board) :
    (returnToIdle b).recovery = b.recovery := rfl

@[simp] theorem returnToIdle_counter (b : Board) :
    (returnToIdle b).counter = b.counter := rfl

@[simp] theorem returnToIdle_notices (b : Board) :
    (returnToIdle b).notices = b.notices := rfl

/-! ### closeTransition -/

@[simp] theorem closeTransition_nodes (b : Board) (r : Record) :
    (closeTransition b r).nodes = b.nodes.map Node.clearPlan := rfl

@[simp] theorem closeTransition_outs (b : Board) (r : Record) :
    (closeTransition b r).outs = b.outs := rfl

@[simp] theorem closeTransition_platform (b : Board) (r : Record) :
    (closeTransition b r).platform = b.platform := rfl

@[simp] theorem closeTransition_phase (b : Board) (r : Record) :
    (closeTransition b r).phase = .idle := rfl

@[simp] theorem closeTransition_record (b : Board) (r : Record) :
    (closeTransition b r).record = none := rfl

@[simp] theorem closeTransition_startedAt (b : Board) (r : Record) :
    (closeTransition b r).startedAt = b.startedAt := rfl

@[simp] theorem closeTransition_last (b : Board) (r : Record) :
    (closeTransition b r).last = some r := rfl

@[simp] theorem closeTransition_stepHold (b : Board) (r : Record) :
    (closeTransition b r).stepHold = b.stepHold := rfl

@[simp] theorem closeTransition_held (b : Board) (r : Record) :
    (closeTransition b r).held = false := rfl

@[simp] theorem closeTransition_issue (b : Board) (r : Record) :
    (closeTransition b r).issue = [] := rfl

@[simp] theorem closeTransition_listedNow (b : Board) (r : Record) :
    (closeTransition b r).listedNow = b.listedNow := rfl

@[simp] theorem closeTransition_emptyChange (b : Board) (r : Record) :
    (closeTransition b r).emptyChange = false := rfl

@[simp] theorem closeTransition_blockTest (b : Board) (r : Record) :
    (closeTransition b r).blockTest = b.blockTest := rfl

@[simp] theorem closeTransition_stack (b : Board) (r : Record) :
    (closeTransition b r).stack = [] := rfl

@[simp] theorem closeTransition_reversible (b : Board) (r : Record) :
    (closeTransition b r).reversible = false := rfl

@[simp] theorem closeTransition_requestedDwell (b : Board) (r : Record) :
    (closeTransition b r).requestedDwell = none := rfl

@[simp] theorem closeTransition_followOn (b : Board) (r : Record) :
    (closeTransition b r).followOn = b.followOn := rfl

@[simp] theorem closeTransition_inUse (b : Board) (r : Record) :
    (closeTransition b r).inUse = b.inUse := rfl

@[simp] theorem closeTransition_pointer (b : Board) (r : Record) :
    (closeTransition b r).pointer = b.pointer := rfl

@[simp] theorem closeTransition_wakes (b : Board) (r : Record) :
    (closeTransition b r).wakes = b.wakes := rfl

@[simp] theorem closeTransition_lockout (b : Board) (r : Record) :
    (closeTransition b r).lockout = b.lockout := rfl

@[simp] theorem closeTransition_cause (b : Board) (r : Record) :
    (closeTransition b r).cause = b.cause := rfl

@[simp] theorem closeTransition_thermalMark (b : Board) (r : Record) :
    (closeTransition b r).thermalMark = b.thermalMark := rfl

@[simp] theorem closeTransition_acRestore (b : Board) (r : Record) :
    (closeTransition b r).acRestore = b.acRestore := rfl

@[simp] theorem closeTransition_dwell (b : Board) (r : Record) :
    (closeTransition b r).dwell = b.dwell := rfl

@[simp] theorem closeTransition_watchdog (b : Board) (r : Record) :
    (closeTransition b r).watchdog = b.watchdog := rfl

@[simp] theorem closeTransition_recovery (b : Board) (r : Record) :
    (closeTransition b r).recovery = b.recovery := rfl

@[simp] theorem closeTransition_counter (b : Board) (r : Record) :
    (closeTransition b r).counter = b.counter := rfl

@[simp] theorem closeTransition_notices (b : Board) (r : Record) :
    (closeTransition b r).notices = postInto b.notices (.done r) := rfl

/-! ### boardAfterPut -/

@[simp] theorem boardAfterPut_nodes (b : Board) (i : Slot) (old new : Option NodeRecord) :
    (boardAfterPut b i old new).nodes = b.nodes.set i.val ((b.node i).afterPut old new) i.isLt := rfl

@[simp] theorem boardAfterPut_outs (b : Board) (i : Slot) (old new : Option NodeRecord) :
    (boardAfterPut b i old new).outs = bindLine old new (releaseLine old new b.outs) := rfl

@[simp] theorem boardAfterPut_platform (b : Board) (i : Slot) (old new : Option NodeRecord) :
    (boardAfterPut b i old new).platform = b.platform := rfl

@[simp] theorem boardAfterPut_phase (b : Board) (i : Slot) (old new : Option NodeRecord) :
    (boardAfterPut b i old new).phase = b.phase := rfl

@[simp] theorem boardAfterPut_record (b : Board) (i : Slot) (old new : Option NodeRecord) :
    (boardAfterPut b i old new).record = b.record := rfl

@[simp] theorem boardAfterPut_startedAt (b : Board) (i : Slot) (old new : Option NodeRecord) :
    (boardAfterPut b i old new).startedAt = b.startedAt := rfl

@[simp] theorem boardAfterPut_last (b : Board) (i : Slot) (old new : Option NodeRecord) :
    (boardAfterPut b i old new).last = b.last := rfl

@[simp] theorem boardAfterPut_stepHold (b : Board) (i : Slot) (old new : Option NodeRecord) :
    (boardAfterPut b i old new).stepHold = b.stepHold := rfl

@[simp] theorem boardAfterPut_held (b : Board) (i : Slot) (old new : Option NodeRecord) :
    (boardAfterPut b i old new).held = b.held := rfl

@[simp] theorem boardAfterPut_issue (b : Board) (i : Slot) (old new : Option NodeRecord) :
    (boardAfterPut b i old new).issue = b.issue := rfl

@[simp] theorem boardAfterPut_listedNow (b : Board) (i : Slot) (old new : Option NodeRecord) :
    (boardAfterPut b i old new).listedNow = b.listedNow := rfl

@[simp] theorem boardAfterPut_emptyChange (b : Board) (i : Slot) (old new : Option NodeRecord) :
    (boardAfterPut b i old new).emptyChange = b.emptyChange := rfl

@[simp] theorem boardAfterPut_blockTest (b : Board) (i : Slot) (old new : Option NodeRecord) :
    (boardAfterPut b i old new).blockTest = b.blockTest := rfl

@[simp] theorem boardAfterPut_stack (b : Board) (i : Slot) (old new : Option NodeRecord) :
    (boardAfterPut b i old new).stack = b.stack := rfl

@[simp] theorem boardAfterPut_reversible (b : Board) (i : Slot) (old new : Option NodeRecord) :
    (boardAfterPut b i old new).reversible = b.reversible := rfl

@[simp] theorem boardAfterPut_requestedDwell (b : Board) (i : Slot) (old new : Option NodeRecord) :
    (boardAfterPut b i old new).requestedDwell = b.requestedDwell := rfl

@[simp] theorem boardAfterPut_followOn (b : Board) (i : Slot) (old new : Option NodeRecord) :
    (boardAfterPut b i old new).followOn = b.followOn := rfl

@[simp] theorem boardAfterPut_inUse (b : Board) (i : Slot) (old new : Option NodeRecord) :
    (boardAfterPut b i old new).inUse = b.inUse := rfl

@[simp] theorem boardAfterPut_pointer (b : Board) (i : Slot) (old new : Option NodeRecord) :
    (boardAfterPut b i old new).pointer = b.pointer := rfl

@[simp] theorem boardAfterPut_wakes (b : Board) (i : Slot) (old new : Option NodeRecord) :
    (boardAfterPut b i old new).wakes = b.wakes := rfl

@[simp] theorem boardAfterPut_lockout (b : Board) (i : Slot) (old new : Option NodeRecord) :
    (boardAfterPut b i old new).lockout = b.lockout := rfl

@[simp] theorem boardAfterPut_cause (b : Board) (i : Slot) (old new : Option NodeRecord) :
    (boardAfterPut b i old new).cause = b.cause := rfl

@[simp] theorem boardAfterPut_thermalMark (b : Board) (i : Slot) (old new : Option NodeRecord) :
    (boardAfterPut b i old new).thermalMark = b.thermalMark := rfl

@[simp] theorem boardAfterPut_acRestore (b : Board) (i : Slot) (old new : Option NodeRecord) :
    (boardAfterPut b i old new).acRestore = b.acRestore := rfl

@[simp] theorem boardAfterPut_dwell (b : Board) (i : Slot) (old new : Option NodeRecord) :
    (boardAfterPut b i old new).dwell = b.dwell := rfl

@[simp] theorem boardAfterPut_watchdog (b : Board) (i : Slot) (old new : Option NodeRecord) :
    (boardAfterPut b i old new).watchdog = b.watchdog := rfl

@[simp] theorem boardAfterPut_recovery (b : Board) (i : Slot) (old new : Option NodeRecord) :
    (boardAfterPut b i old new).recovery = b.recovery := rfl

@[simp] theorem boardAfterPut_counter (b : Board) (i : Slot) (old new : Option NodeRecord) :
    (boardAfterPut b i old new).counter = b.counter := rfl

@[simp] theorem boardAfterPut_notices (b : Board) (i : Slot) (old new : Option NodeRecord) :
    (boardAfterPut b i old new).notices = b.notices := rfl

/-! ### putReply -/

@[simp] theorem putReply_pending (s : State) (acks : List Bool) (frame : List Byte) :
    (s.putReply acks frame).pending = s.pending := rfl

@[simp] theorem putReply_now (s : State) (acks : List Bool) (frame : List Byte) :
    (s.putReply acks frame).now = s.now := rfl

@[simp] theorem putReply_free (s : State) (acks : List Bool) (frame : List Byte) :
    (s.putReply acks frame).free = s.free := rfl

@[simp] theorem putReply_startup (s : State) (acks : List Bool) (frame : List Byte) :
    (s.putReply acks frame).startup = s.startup := rfl

@[simp] theorem putReply_pins (s : State) (acks : List Bool) (frame : List Byte) :
    (s.putReply acks frame).pins = s.pins := rfl

@[simp] theorem putReply_cfg (s : State) (acks : List Bool) (frame : List Byte) :
    (s.putReply acks frame).cfg = s.cfg := rfl

@[simp] theorem putReply_board (s : State) (acks : List Bool) (frame : List Byte) :
    (s.putReply acks frame).board = s.board := rfl

@[simp] theorem putReply_inputs (s : State) (acks : List Bool) (frame : List Byte) :
    (s.putReply acks frame).inputs = s.inputs := rfl

@[simp] theorem putReply_monitor (s : State) (acks : List Bool) (frame : List Byte) :
    (s.putReply acks frame).monitor = s.monitor := rfl

@[simp] theorem putReply_quals (s : State) (acks : List Bool) (frame : List Byte) :
    (s.putReply acks frame).quals = s.quals := rfl

@[simp] theorem putReply_panel (s : State) (acks : List Bool) (frame : List Byte) :
    (s.putReply acks frame).panel = s.panel := rfl

@[simp] theorem putReply_ledOn (s : State) (acks : List Bool) (frame : List Byte) :
    (s.putReply acks frame).ledOn = s.ledOn := rfl

@[simp] theorem putReply_link (s : State) (acks : List Bool) (frame : List Byte) :
    (s.putReply acks frame).link = ⟨s.link.addrHigh, some frame, s.link.read, true, acks, []⟩ := rfl

@[simp] theorem putReply_store (s : State) (acks : List Bool) (frame : List Byte) :
    (s.putReply acks frame).store = s.store := rfl

/-! ### putAcks -/

@[simp] theorem putAcks_pending (s : State) (acks : List Bool) :
    (s.putAcks acks).pending = s.pending := rfl

@[simp] theorem putAcks_now (s : State) (acks : List Bool) :
    (s.putAcks acks).now = s.now := rfl

@[simp] theorem putAcks_free (s : State) (acks : List Bool) :
    (s.putAcks acks).free = s.free := rfl

@[simp] theorem putAcks_startup (s : State) (acks : List Bool) :
    (s.putAcks acks).startup = s.startup := rfl

@[simp] theorem putAcks_pins (s : State) (acks : List Bool) :
    (s.putAcks acks).pins = s.pins := rfl

@[simp] theorem putAcks_cfg (s : State) (acks : List Bool) :
    (s.putAcks acks).cfg = s.cfg := rfl

@[simp] theorem putAcks_board (s : State) (acks : List Bool) :
    (s.putAcks acks).board = s.board := rfl

@[simp] theorem putAcks_inputs (s : State) (acks : List Bool) :
    (s.putAcks acks).inputs = s.inputs := rfl

@[simp] theorem putAcks_monitor (s : State) (acks : List Bool) :
    (s.putAcks acks).monitor = s.monitor := rfl

@[simp] theorem putAcks_quals (s : State) (acks : List Bool) :
    (s.putAcks acks).quals = s.quals := rfl

@[simp] theorem putAcks_panel (s : State) (acks : List Bool) :
    (s.putAcks acks).panel = s.panel := rfl

@[simp] theorem putAcks_ledOn (s : State) (acks : List Bool) :
    (s.putAcks acks).ledOn = s.ledOn := rfl

@[simp] theorem putAcks_link (s : State) (acks : List Bool) :
    (s.putAcks acks).link = ⟨s.link.addrHigh, s.link.reply, s.link.read, s.link.attnLow, acks, []⟩ := rfl

@[simp] theorem putAcks_store (s : State) (acks : List Bool) :
    (s.putAcks acks).store = s.store := rfl

/-! ### withReply -/

@[simp] theorem withReply_pending (s : State) (n : Nat) (frame : List Byte) :
    (s.withReply n frame).pending = s.pending := rfl

@[simp] theorem withReply_now (s : State) (n : Nat) (frame : List Byte) :
    (s.withReply n frame).now = s.now := rfl

@[simp] theorem withReply_free (s : State) (n : Nat) (frame : List Byte) :
    (s.withReply n frame).free = s.free := rfl

@[simp] theorem withReply_startup (s : State) (n : Nat) (frame : List Byte) :
    (s.withReply n frame).startup = s.startup := rfl

@[simp] theorem withReply_pins (s : State) (n : Nat) (frame : List Byte) :
    (s.withReply n frame).pins = s.pins := rfl

@[simp] theorem withReply_cfg (s : State) (n : Nat) (frame : List Byte) :
    (s.withReply n frame).cfg = s.cfg := rfl

@[simp] theorem withReply_board (s : State) (n : Nat) (frame : List Byte) :
    (s.withReply n frame).board = s.board := rfl

@[simp] theorem withReply_inputs (s : State) (n : Nat) (frame : List Byte) :
    (s.withReply n frame).inputs = s.inputs := rfl

@[simp] theorem withReply_monitor (s : State) (n : Nat) (frame : List Byte) :
    (s.withReply n frame).monitor = s.monitor := rfl

@[simp] theorem withReply_quals (s : State) (n : Nat) (frame : List Byte) :
    (s.withReply n frame).quals = s.quals := rfl

@[simp] theorem withReply_panel (s : State) (n : Nat) (frame : List Byte) :
    (s.withReply n frame).panel = s.panel := rfl

@[simp] theorem withReply_ledOn (s : State) (n : Nat) (frame : List Byte) :
    (s.withReply n frame).ledOn = s.ledOn := rfl

@[simp] theorem withReply_link (s : State) (n : Nat) (frame : List Byte) :
    (s.withReply n frame).link = ⟨s.link.addrHigh, some frame, s.link.read, true, List.replicate (n + 1) true, []⟩ := rfl

@[simp] theorem withReply_store (s : State) (n : Nat) (frame : List Byte) :
    (s.withReply n frame).store = s.store := rfl

/-! ### placeReply -/

@[simp] theorem placeReply_pending (s : State) (bytes : List Byte) (type : Nat) (st : Status) (contents : List Byte) :
    (s.placeReply bytes type st contents).pending = s.pending := rfl

@[simp] theorem placeReply_now (s : State) (bytes : List Byte) (type : Nat) (st : Status) (contents : List Byte) :
    (s.placeReply bytes type st contents).now = s.now := rfl

@[simp] theorem placeReply_free (s : State) (bytes : List Byte) (type : Nat) (st : Status) (contents : List Byte) :
    (s.placeReply bytes type st contents).free = s.free := rfl

@[simp] theorem placeReply_startup (s : State) (bytes : List Byte) (type : Nat) (st : Status) (contents : List Byte) :
    (s.placeReply bytes type st contents).startup = s.startup := rfl

@[simp] theorem placeReply_pins (s : State) (bytes : List Byte) (type : Nat) (st : Status) (contents : List Byte) :
    (s.placeReply bytes type st contents).pins = s.pins := rfl

@[simp] theorem placeReply_cfg (s : State) (bytes : List Byte) (type : Nat) (st : Status) (contents : List Byte) :
    (s.placeReply bytes type st contents).cfg = s.cfg := rfl

@[simp] theorem placeReply_board (s : State) (bytes : List Byte) (type : Nat) (st : Status) (contents : List Byte) :
    (s.placeReply bytes type st contents).board = s.board := rfl

@[simp] theorem placeReply_inputs (s : State) (bytes : List Byte) (type : Nat) (st : Status) (contents : List Byte) :
    (s.placeReply bytes type st contents).inputs = s.inputs := rfl

@[simp] theorem placeReply_monitor (s : State) (bytes : List Byte) (type : Nat) (st : Status) (contents : List Byte) :
    (s.placeReply bytes type st contents).monitor = s.monitor := rfl

@[simp] theorem placeReply_quals (s : State) (bytes : List Byte) (type : Nat) (st : Status) (contents : List Byte) :
    (s.placeReply bytes type st contents).quals = s.quals := rfl

@[simp] theorem placeReply_panel (s : State) (bytes : List Byte) (type : Nat) (st : Status) (contents : List Byte) :
    (s.placeReply bytes type st contents).panel = s.panel := rfl

@[simp] theorem placeReply_ledOn (s : State) (bytes : List Byte) (type : Nat) (st : Status) (contents : List Byte) :
    (s.placeReply bytes type st contents).ledOn = s.ledOn := rfl

@[simp] theorem placeReply_link (s : State) (bytes : List Byte) (type : Nat) (st : Status) (contents : List Byte) :
    (s.placeReply bytes type st contents).link = ⟨s.link.addrHigh, some (replyFrame type st contents), s.link.read, true, acksOfWrite bytes, []⟩ := rfl

@[simp] theorem placeReply_store (s : State) (bytes : List Byte) (type : Nat) (st : Status) (contents : List Byte) :
    (s.placeReply bytes type st contents).store = s.store := rfl

/-! ### refuseWrite -/

@[simp] theorem refuseWrite_pending (s : State) (bytes : List Byte) :
    (s.refuseWrite bytes).pending = s.pending := rfl

@[simp] theorem refuseWrite_now (s : State) (bytes : List Byte) :
    (s.refuseWrite bytes).now = s.now := rfl

@[simp] theorem refuseWrite_free (s : State) (bytes : List Byte) :
    (s.refuseWrite bytes).free = s.free := rfl

@[simp] theorem refuseWrite_startup (s : State) (bytes : List Byte) :
    (s.refuseWrite bytes).startup = s.startup := rfl

@[simp] theorem refuseWrite_pins (s : State) (bytes : List Byte) :
    (s.refuseWrite bytes).pins = s.pins := rfl

@[simp] theorem refuseWrite_cfg (s : State) (bytes : List Byte) :
    (s.refuseWrite bytes).cfg = s.cfg := rfl

@[simp] theorem refuseWrite_board (s : State) (bytes : List Byte) :
    (s.refuseWrite bytes).board = s.board := rfl

@[simp] theorem refuseWrite_inputs (s : State) (bytes : List Byte) :
    (s.refuseWrite bytes).inputs = s.inputs := rfl

@[simp] theorem refuseWrite_monitor (s : State) (bytes : List Byte) :
    (s.refuseWrite bytes).monitor = s.monitor := rfl

@[simp] theorem refuseWrite_quals (s : State) (bytes : List Byte) :
    (s.refuseWrite bytes).quals = s.quals := rfl

@[simp] theorem refuseWrite_panel (s : State) (bytes : List Byte) :
    (s.refuseWrite bytes).panel = s.panel := rfl

@[simp] theorem refuseWrite_ledOn (s : State) (bytes : List Byte) :
    (s.refuseWrite bytes).ledOn = s.ledOn := rfl

@[simp] theorem refuseWrite_store (s : State) (bytes : List Byte) :
    (s.refuseWrite bytes).store = s.store := rfl

/-! ### attn -/

@[simp] theorem attn_pending (s : State) :
    (s.attn).pending = s.pending := rfl

@[simp] theorem attn_now (s : State) :
    (s.attn).now = s.now := rfl

@[simp] theorem attn_free (s : State) :
    (s.attn).free = s.free := rfl

@[simp] theorem attn_startup (s : State) :
    (s.attn).startup = s.startup := rfl

@[simp] theorem attn_pins (s : State) :
    (s.attn).pins = s.pins := rfl

@[simp] theorem attn_cfg (s : State) :
    (s.attn).cfg = s.cfg := rfl

@[simp] theorem attn_board (s : State) :
    (s.attn).board = s.board := rfl

@[simp] theorem attn_inputs (s : State) :
    (s.attn).inputs = s.inputs := rfl

@[simp] theorem attn_monitor (s : State) :
    (s.attn).monitor = s.monitor := rfl

@[simp] theorem attn_quals (s : State) :
    (s.attn).quals = s.quals := rfl

@[simp] theorem attn_panel (s : State) :
    (s.attn).panel = s.panel := rfl

@[simp] theorem attn_ledOn (s : State) :
    (s.attn).ledOn = s.ledOn := rfl

@[simp] theorem attn_link (s : State) :
    (s.attn).link = { s.link with attnLow := s.link.reply.isSome || !s.board.notices.isEmpty } := rfl

@[simp] theorem attn_store (s : State) :
    (s.attn).store = s.store := rfl

/-! ### setQual -/

@[simp] theorem setQual_pending (s : State) (l : WakeLine) (q : Qualifier) :
    (s.setQual l q).pending = s.pending := rfl

@[simp] theorem setQual_now (s : State) (l : WakeLine) (q : Qualifier) :
    (s.setQual l q).now = s.now := rfl

@[simp] theorem setQual_free (s : State) (l : WakeLine) (q : Qualifier) :
    (s.setQual l q).free = s.free := rfl

@[simp] theorem setQual_startup (s : State) (l : WakeLine) (q : Qualifier) :
    (s.setQual l q).startup = s.startup := rfl

@[simp] theorem setQual_pins (s : State) (l : WakeLine) (q : Qualifier) :
    (s.setQual l q).pins = s.pins := rfl

@[simp] theorem setQual_cfg (s : State) (l : WakeLine) (q : Qualifier) :
    (s.setQual l q).cfg = s.cfg := rfl

@[simp] theorem setQual_board (s : State) (l : WakeLine) (q : Qualifier) :
    (s.setQual l q).board = s.board := rfl

@[simp] theorem setQual_inputs (s : State) (l : WakeLine) (q : Qualifier) :
    (s.setQual l q).inputs = s.inputs := rfl

@[simp] theorem setQual_monitor (s : State) (l : WakeLine) (q : Qualifier) :
    (s.setQual l q).monitor = s.monitor := rfl

@[simp] theorem setQual_quals (s : State) (l : WakeLine) (q : Qualifier) :
    (s.setQual l q).quals = s.quals.set l.val q l.isLt := rfl

@[simp] theorem setQual_panel (s : State) (l : WakeLine) (q : Qualifier) :
    (s.setQual l q).panel = s.panel := rfl

@[simp] theorem setQual_ledOn (s : State) (l : WakeLine) (q : Qualifier) :
    (s.setQual l q).ledOn = s.ledOn := rfl

@[simp] theorem setQual_link (s : State) (l : WakeLine) (q : Qualifier) :
    (s.setQual l q).link = s.link := rfl

@[simp] theorem setQual_store (s : State) (l : WakeLine) (q : Qualifier) :
    (s.setQual l q).store = s.store := rfl

/-! ### setWake -/

@[simp] theorem setWake_pending (s : State) (l : WakeLine) (level : Level) :
    (s.setWake l level).pending = s.pending := rfl

@[simp] theorem setWake_now (s : State) (l : WakeLine) (level : Level) :
    (s.setWake l level).now = s.now := rfl

@[simp] theorem setWake_free (s : State) (l : WakeLine) (level : Level) :
    (s.setWake l level).free = s.free := rfl

@[simp] theorem setWake_startup (s : State) (l : WakeLine) (level : Level) :
    (s.setWake l level).startup = s.startup := rfl

@[simp] theorem setWake_pins (s : State) (l : WakeLine) (level : Level) :
    (s.setWake l level).pins = { s.pins with wk := s.pins.wk.set l.val level l.isLt } := rfl

@[simp] theorem setWake_cfg (s : State) (l : WakeLine) (level : Level) :
    (s.setWake l level).cfg = s.cfg := rfl

@[simp] theorem setWake_board (s : State) (l : WakeLine) (level : Level) :
    (s.setWake l level).board = s.board := rfl

@[simp] theorem setWake_inputs (s : State) (l : WakeLine) (level : Level) :
    (s.setWake l level).inputs = s.inputs := rfl

@[simp] theorem setWake_monitor (s : State) (l : WakeLine) (level : Level) :
    (s.setWake l level).monitor = s.monitor := rfl

@[simp] theorem setWake_quals (s : State) (l : WakeLine) (level : Level) :
    (s.setWake l level).quals = s.quals := rfl

@[simp] theorem setWake_panel (s : State) (l : WakeLine) (level : Level) :
    (s.setWake l level).panel = s.panel := rfl

@[simp] theorem setWake_ledOn (s : State) (l : WakeLine) (level : Level) :
    (s.setWake l level).ledOn = s.ledOn := rfl

@[simp] theorem setWake_link (s : State) (l : WakeLine) (level : Level) :
    (s.setWake l level).link = s.link := rfl

@[simp] theorem setWake_store (s : State) (l : WakeLine) (level : Level) :
    (s.setWake l level).store = s.store := rfl

/-! ### putNode -/

@[simp] theorem putNode_pending (s : State) (i : Slot) (rec : Option NodeRecord) :
    (s.putNode i rec).pending = s.pending := rfl

@[simp] theorem putNode_now (s : State) (i : Slot) (rec : Option NodeRecord) :
    (s.putNode i rec).now = s.now := rfl

@[simp] theorem putNode_free (s : State) (i : Slot) (rec : Option NodeRecord) :
    (s.putNode i rec).free = s.free := rfl

@[simp] theorem putNode_startup (s : State) (i : Slot) (rec : Option NodeRecord) :
    (s.putNode i rec).startup = s.startup := rfl

@[simp] theorem putNode_pins (s : State) (i : Slot) (rec : Option NodeRecord) :
    (s.putNode i rec).pins = s.pins := rfl

@[simp] theorem putNode_cfg (s : State) (i : Slot) (rec : Option NodeRecord) :
    (s.putNode i rec).cfg = s.cfg.putNode i rec := rfl

@[simp] theorem putNode_board (s : State) (i : Slot) (rec : Option NodeRecord) :
    (s.putNode i rec).board = boardAfterPut s.board i (s.cfg.node i) rec := rfl

@[simp] theorem putNode_inputs (s : State) (i : Slot) (rec : Option NodeRecord) :
    (s.putNode i rec).inputs = s.inputs := rfl

@[simp] theorem putNode_monitor (s : State) (i : Slot) (rec : Option NodeRecord) :
    (s.putNode i rec).monitor = s.monitor := rfl

@[simp] theorem putNode_quals (s : State) (i : Slot) (rec : Option NodeRecord) :
    (s.putNode i rec).quals = s.quals := rfl

@[simp] theorem putNode_panel (s : State) (i : Slot) (rec : Option NodeRecord) :
    (s.putNode i rec).panel = s.panel := rfl

@[simp] theorem putNode_ledOn (s : State) (i : Slot) (rec : Option NodeRecord) :
    (s.putNode i rec).ledOn = s.ledOn := rfl

@[simp] theorem putNode_link (s : State) (i : Slot) (rec : Option NodeRecord) :
    (s.putNode i rec).link = s.link := rfl

@[simp] theorem putNode_store (s : State) (i : Slot) (rec : Option NodeRecord) :
    (s.putNode i rec).store = s.store := rfl

/-! ### finishWith -/

@[simp] theorem finishWith_pending (s : State) (b : Board) :
    (finishWith s b).pending = s.pending := rfl

@[simp] theorem finishWith_now (s : State) (b : Board) :
    (finishWith s b).now = s.now := rfl

@[simp] theorem finishWith_free (s : State) (b : Board) :
    (finishWith s b).free = s.free + 1 := rfl

@[simp] theorem finishWith_startup (s : State) (b : Board) :
    (finishWith s b).startup = s.startup := rfl

@[simp] theorem finishWith_pins (s : State) (b : Board) :
    (finishWith s b).pins = s.pins := rfl

@[simp] theorem finishWith_cfg (s : State) (b : Board) :
    (finishWith s b).cfg = s.cfg := rfl

@[simp] theorem finishWith_board (s : State) (b : Board) :
    (finishWith s b).board = b := rfl

@[simp] theorem finishWith_inputs (s : State) (b : Board) :
    (finishWith s b).inputs = s.inputs := rfl

@[simp] theorem finishWith_monitor (s : State) (b : Board) :
    (finishWith s b).monitor = takeMode s.monitor b s.now s.cfg.settings.sleepInterval := rfl

@[simp] theorem finishWith_quals (s : State) (b : Board) :
    (finishWith s b).quals = s.quals := rfl

@[simp] theorem finishWith_panel (s : State) (b : Board) :
    (finishWith s b).panel = s.panel.want (wantedPattern s.store.unconfigured b) s.now := rfl

@[simp] theorem finishWith_store (s : State) (b : Board) :
    (finishWith s b).store = s.store := rfl

/-! ### finish -/

@[simp] theorem finish_pending (s0 s : State) :
    (finish s0 s).pending = s.pending := rfl

@[simp] theorem finish_now (s0 s : State) :
    (finish s0 s).now = s.now := rfl

@[simp] theorem finish_free (s0 s : State) :
    (finish s0 s).free = s.free + 1 := rfl

@[simp] theorem finish_startup (s0 s : State) :
    (finish s0 s).startup = s.startup := rfl

@[simp] theorem finish_pins (s0 s : State) :
    (finish s0 s).pins = s.pins := rfl

@[simp] theorem finish_cfg (s0 s : State) :
    (finish s0 s).cfg = s.cfg := rfl

@[simp] theorem finish_board (s0 s : State) :
    (finish s0 s).board = finishBoard s0 s := rfl

@[simp] theorem finish_inputs (s0 s : State) :
    (finish s0 s).inputs = s.inputs := rfl

@[simp] theorem finish_quals (s0 s : State) :
    (finish s0 s).quals = s.quals := rfl

@[simp] theorem finish_store (s0 s : State) :
    (finish s0 s).store = s.store := rfl

end Sys2Proof.Machine
end

