-- ==== Sys2Proof/Laws/Ops.lean ====
section
/-! SUPPORT. One law per shared operation: what it can do to a slot, to the lines, to the rest of the board, and how a
property goes through the loops over slots, through the engine's changes and through a pass. -/

namespace Sys2Proof.Machine

/-! ### Slots -/

theorem mem_slots (i : Slot) : i ∈ slots := by revert i; decide

theorem slots_nodup : slots.Nodup := by decide

theorem slots_all_iff (p : Slot → Bool) : slots.all p = true ↔ ∀ i, p i = true := by
  simp [List.all_eq_true, mem_slots]

theorem slots_any_iff (p : Slot → Bool) : slots.any p = true ↔ ∃ i, p i = true := by
  simp [List.any_eq_true, mem_slots]

/-! ### Reading a slot after a write -/

@[simp] theorem node_setNode_self (b : Board) (i : Slot) (n : Node) : (b.setNode i n).node i = n := by
  simp [Board.node, Board.setNode, Vector.get_eq_getElem]

@[simp] theorem node_setNode_ne (b : Board) (i j : Slot) (n : Node) (h : j ≠ i) : (b.setNode i n).node j = b.node j := by
  have : i.val ≠ j.val := fun e => h (Fin.ext e.symm)
  simp [Board.node, Board.setNode, Vector.get_eq_getElem, this]

@[simp] theorem node_updNode_self (b : Board) (i : Slot) (f : Node → Node) : (b.updNode i f).node i = f (b.node i) := by
  simp [Board.updNode]

@[simp] theorem node_updNode_ne (b : Board) (i j : Slot) (f : Node → Node) (h : j ≠ i) :
    (b.updNode i f).node j = b.node j := by simp [Board.updNode, h]

@[simp] theorem node_enter_self (cfg : WorkingConfig) (b : Board) (i : Slot) (st : NodeState) (dl : Option Deadline) :
    (enter cfg b i st dl).node i = (b.node i).withState st dl := by
  simp [Board.node, enter, Vector.get_eq_getElem]

@[simp] theorem node_enter_ne (cfg : WorkingConfig) (b : Board) (i j : Slot) (st : NodeState) (dl : Option Deadline)
    (h : j ≠ i) : (enter cfg b i st dl).node j = b.node j := by
  have : i.val ≠ j.val := fun e => h (Fin.ext e.symm)
  simp [Board.node, enter, Vector.get_eq_getElem, this]

@[simp] theorem node_post (b : Board) (n : Notice) (i : Slot) : (b.post n).node i = b.node i := rfl

@[simp] theorem stateOf_post (b : Board) (n : Notice) (i : Slot) : (b.post n).stateOf i = b.stateOf i := rfl

@[simp] theorem stateOf_enter_self (cfg : WorkingConfig) (b : Board) (i : Slot) (st : NodeState) (dl : Option Deadline) :
    (enter cfg b i st dl).stateOf i = st := by simp [Board.stateOf, Node.withState]

@[simp] theorem stateOf_enter_ne (cfg : WorkingConfig) (b : Board) (i j : Slot) (st : NodeState) (dl : Option Deadline)
    (h : j ≠ i) : (enter cfg b i st dl).stateOf j = b.stateOf j := by simp [Board.stateOf, h]

/-- Reading every slot after a map over all of them. -/
theorem node_map (b : Board) (f : Node → Node) (i : Slot) : ({ b with nodes := b.nodes.map f } : Board).node i = f (b.node i) := by
  simp [Board.node, Vector.get_eq_getElem]

/-- Reading every slot after it was rebuilt. -/
theorem node_ofFn (b : Board) (f : Slot → Node) (i : Slot) :
    ({ b with nodes := Vector.ofFn f } : Board).node i = f i := by
  simp [Board.node, Vector.get_eq_getElem]

/-! ### The change of a node state -/

section
variable (n : Node) (st : NodeState) (dl : Option Deadline)

@[simp] theorem withState_state : (n.withState st dl).state = st := rfl
@[simp] theorem withState_deadline : (n.withState st dl).deadline = dl := rfl
@[simp] theorem withState_retriesLeft : (n.withState st dl).retriesLeft = n.retriesLeft := rfl
@[simp] theorem withState_lastSample : (n.withState st dl).lastSample = n.lastSample := rfl
@[simp] theorem withState_lastClass : (n.withState st dl).lastClass = n.lastClass := rfl
@[simp] theorem withState_saturated : (n.withState st dl).saturated = n.saturated := rfl
@[simp] theorem withState_target : (n.withState st dl).target = n.target := rfl
@[simp] theorem withState_levelBlocked : (n.withState st dl).levelBlocked = n.levelBlocked := rfl
@[simp] theorem withState_member : (n.withState st dl).member = n.member := rfl
@[simp] theorem withState_startLevel : (n.withState st dl).startLevel = n.startLevel := rfl
@[simp] theorem withState_inCount : (n.withState st dl).inCount = 0 := rfl
@[simp] theorem withState_overCount : (n.withState st dl).overCount = 0 := rfl
@[simp] theorem withState_offCount : (n.withState st dl).offCount = 0 := rfl

end

/-! ### What an operation on one slot leaves alone -/

/-- Only slots, lines and the budget in use differ. -/
def OnlySlots (b t : Board) : Prop := t = { b with nodes := t.nodes, outs := t.outs, inUse := t.inUse }

/-- Every slot but one is the same. -/
def OnlySlot (i : Slot) (b t : Board) : Prop := ∀ j, j ≠ i → t.node j = b.node j

theorem OnlySlots.refl (b : Board) : OnlySlots b b := rfl

theorem OnlySlots.trans {b t u : Board} (h : OnlySlots b t) (k : OnlySlots t u) : OnlySlots b u := by
  unfold OnlySlots at *; rw [k, h]

theorem OnlySlot.refl (i : Slot) (b : Board) : OnlySlot i b b := fun _ _ => rfl

theorem OnlySlot.trans {i : Slot} {b t u : Board} (h : OnlySlot i b t) (k : OnlySlot i t u) : OnlySlot i b u :=
  fun j hj => (k j hj).trans (h j hj)

theorem onlySlots_enter (cfg : WorkingConfig) (b : Board) (i : Slot) (st : NodeState) (dl : Option Deadline) :
    OnlySlots b (enter cfg b i st dl) := rfl

theorem onlySlots_updNode (b : Board) (i : Slot) (f : Node → Node) : OnlySlots b (b.updNode i f) := rfl

theorem onlySlot_enter (cfg : WorkingConfig) (b : Board) (i : Slot) (st : NodeState) (dl : Option Deadline) :
    OnlySlot i b (enter cfg b i st dl) := fun j hj => node_enter_ne cfg b i j st dl hj

theorem onlySlot_updNode (b : Board) (i : Slot) (f : Node → Node) : OnlySlot i b (b.updNode i f) :=
  fun j hj => node_updNode_ne b i j f hj

theorem onlySlots_fall (e : Env) (b : Board) (i : Slot) : OnlySlots b (fall e b i) := by
  unfold fall; split
  · exact OnlySlots.refl b
  · exact onlySlots_enter ..

theorem onlySlot_fall (e : Env) (b : Board) (i : Slot) : OnlySlot i b (fall e b i) := by
  unfold fall; split
  · exact OnlySlot.refl i b
  · exact onlySlot_enter _ _ _ _ _

theorem onlySlots_toSettling (e : Env) (b : Board) (i : Slot) : OnlySlots b (toSettling e b i) := by
  unfold toSettling; split
  · exact OnlySlots.refl b
  · split <;> exact onlySlots_enter ..

theorem onlySlot_toSettling (e : Env) (b : Board) (i : Slot) : OnlySlot i b (toSettling e b i) := by
  unfold toSettling; split
  · exact OnlySlot.refl i b
  · split <;> exact onlySlot_enter _ _ _ _ _

theorem onlySlots_toRamping (e : Env) (b : Board) (i : Slot) : OnlySlots b (toRamping e b i) := by
  unfold toRamping; split
  · exact OnlySlots.refl b
  · exact onlySlots_enter ..

theorem onlySlot_toRamping (e : Env) (b : Board) (i : Slot) : OnlySlot i b (toRamping e b i) := by
  unfold toRamping; split
  · exact OnlySlot.refl i b
  · exact onlySlot_enter _ _ _ _ _

theorem onlySlots_rampFailure (e : Env) (b : Board) (i : Slot) : OnlySlots b (rampFailure e b i) :=
  by unfold rampFailure; exact (onlySlots_fall e b i).trans (onlySlots_updNode _ _ _)

theorem onlySlot_rampFailure (e : Env) (b : Board) (i : Slot) : OnlySlot i b (rampFailure e b i) :=
  by unfold rampFailure; exact (onlySlot_fall e b i).trans (onlySlot_updNode _ _ _)

/-- A fault report changes slots, lines, charges, the open record and the notices. -/
theorem reportFault_eq (e : Env) (b : Board) (i : Slot) (k : FaultKind) (c : Consequence) :
    reportFault e b i k c = { b with
      nodes := (reportFault e b i k c).nodes, outs := (reportFault e b i k c).outs
      blockTest := b.blockTest || b.phase == Phase.lowering
      inUse := (reportFault e b i k c).inUse, record := recordFault b i k (c != Consequence.none)
      notices := postInto b.notices (.fault i k (faultSample e.cfg b i) b.phase b.transitionKind c) } := rfl

theorem onlySlot_reportFault (e : Env) (b : Board) (i : Slot) (k : FaultKind) (c : Consequence) :
    OnlySlot i b (reportFault e b i k c) := by
  intro j hj
  unfold reportFault
  simp only [node_post, node_updNode_ne _ _ _ _ hj]
  exact node_enter_ne e.cfg b i j _ _ hj

@[simp] theorem stateOf_reportFault_self (e : Env) (b : Board) (i : Slot) (k : FaultKind) (c : Consequence) :
    (reportFault e b i k c).stateOf i = .faulted k := by
  unfold reportFault
  simp only [Board.stateOf, node_post, node_updNode_self]
  exact stateOf_enter_self e.cfg b i (.faulted k) none

/-- A release changes nothing of the engine but the record and the notices of a fault it reports. -/
theorem release_eq (e : Env) (b : Board) (i : Slot) (ending : Ending) (c : Consequence) :
    ∃ nodes outs inUse record notices test, release e b i ending c =
      { b with
        nodes := nodes, outs := outs, inUse := inUse, record := record, notices := notices, blockTest := test } := by
  unfold release takeQuietEnding fall
  split
  iterate 2 exact ⟨_, _, _, _, _, _, rfl⟩
  iterate 2
    cases ending
    · exact ⟨_, _, _, _, _, _, rfl⟩
    · exact ⟨_, _, _, _, _, _, rfl⟩
  iterate 4
    split
    · exact ⟨_, _, _, _, _, _, rfl⟩
    · exact ⟨_, _, _, _, _, _, rfl⟩
  iterate 2 exact ⟨_, _, _, _, _, _, rfl⟩

/-- A release touches its own slot. -/
theorem onlySlot_release (e : Env) (b : Board) (i : Slot) (ending : Ending) (c : Consequence) :
    OnlySlot i b (release e b i ending c) := by
  unfold release
  split
  iterate 2 exact OnlySlot.refl i b
  iterate 2
    unfold takeQuietEnding
    split
    · exact onlySlot_enter _ _ _ _ _
    · exact onlySlot_reportFault _ _ _ _ _
  iterate 4 exact (onlySlot_fall e b i).trans (onlySlot_updNode _ _ _)
  iterate 2 exact onlySlot_updNode _ _ _

/-- A release with ending OFF reports nothing. -/
theorem onlySlots_release_off (e : Env) (b : Board) (i : Slot) (c : Consequence) :
    OnlySlots b (release e b i .off c) := by
  unfold release
  split
  iterate 2 exact OnlySlots.refl b
  iterate 2 exact onlySlots_enter ..
  iterate 4 exact (onlySlots_fall e b i).trans (onlySlots_updNode ..)
  iterate 2 exact onlySlots_updNode ..

/-! ### Loops -/

/-- A property that every turn keeps holds after a loop over the slots. -/
theorem forSlots_induct (P : Board → Prop) (f : Board → Slot → Board) (h : ∀ b i, P b → P (f b i)) (b : Board) (hb : P b) :
    P (b.forSlots f) := by
  unfold Board.forSlots
  generalize slots = l
  induction l generalizing b with
  | nil => exact hb
  | cons i l ih => exact ih (f b i) (h b i hb)

/-- A relation to the start that every turn keeps holds after a loop over the slots. -/
theorem forSlots_onlySlots (f : Board → Slot → Board) (h : ∀ b i, OnlySlots b (f b i)) (b : Board) :
    OnlySlots b (b.forSlots f) :=
  forSlots_induct (OnlySlots b) f (fun _ _ ht => ht.trans (h _ _)) b (OnlySlots.refl b)

/-- A loop whose turns touch their own slot only, by a function of that slot, does so to every slot once. -/
theorem forSlots_node (f : Board → Slot → Board) (g : Slot → Node → Node) (hself : ∀ b i, (f b i).node i = g i (b.node i))
    (hother : ∀ b i, OnlySlot i b (f b i)) (b : Board) (j : Slot) : (b.forSlots f).node j = g j (b.node j) := by
  have key : ∀ (l : List Slot), l.Nodup → ∀ b : Board,
      (l.foldl f b).node j = if j ∈ l then g j (b.node j) else b.node j := by
    intro l
    induction l with
    | nil => intro _ b; simp
    | cons i l ih =>
      intro hn b
      rw [List.nodup_cons] at hn
      rw [List.foldl_cons, ih hn.2]
      by_cases hji : j = i
      · subst hji; simp [hn.1, hself]
      · simp [hji, hother b i j hji]
  unfold Board.forSlots
  rw [key slots slots_nodup b]
  simp [mem_slots]

/-- A property that every change of the engine keeps holds when the board has settled. -/
theorem settleFor_induct (e : Env) (P : Board → Prop) (h : ∀ b t, P b → engineStep e b = some t → P t) (fuel : Nat)
    (b : Board) (hb : P b) : P (settleFor e fuel b) := by
  induction fuel generalizing b with
  | zero => exact hb
  | succ n ih =>
    unfold settleFor
    split
    · exact hb
    · rename_i t ht; exact ih t (h b t hb ht)

theorem settleBoard_induct (e : Env) (P : Board → Prop) (h : ∀ b t, P b → engineStep e b = some t → P t) (b : Board)
    (hb : P b) : P (settleBoard e b) := settleFor_induct e P h settleFuel b hb

/-- What the engine's changes keep, an event keeps, whether the engine makes them or an ENTER comes first. -/
theorem settleEvent_induct (s0 s : State) (P : Board → Prop) (h : ∀ b t, P b → engineStep s.env b = some t → P t)
    (b : Board) (hb : P b) : P (settleEvent s0 s b) := by
  unfold settleEvent
  split
  · exact hb
  · exact settleBoard_induct s.env P h b hb

/-- A property kept by arrivals and by what the engine does in the event is kept when level lines arrive again. -/
theorem rearm_induct (s0 s : State) (settle : Board → Board) (P : Board → Prop) (hsettle : ∀ b, P b → P (settle b))
    (harrive : ∀ b id, P b → P (arrive s.env b id)) (n : Nat) (done : List SourceId) (b : Board) (hb : P b) :
    P (rearm s0 s settle n done b) := by
  induction n generalizing done b with
  | zero => exact hb
  | succ n ih =>
    unfold rearm
    split
    · exact hb
    · exact ih _ _ (hsettle _ (harrive b _ hb))

/-- A property of states that every event of a pass keeps holds after the pass. -/
theorem pass_induct (P : State → Prop) (m : RoundMode) (readings : Readings)
    (hc : ∀ s c, P s → P (s.readChannel m readings c)) (hi : ∀ s c, P s → P (s.readInput m readings c)) (s : State)
    (hs : P s) : P (s.pass m readings) := by
  have loop : ∀ (l : List (Fin 12)) (read : State → Fin 12 → State), (∀ s c, P s → P (read s c)) → ∀ s, P s →
      P (l.foldl read s) := by
    intro l read hr
    induction l with
    | nil => intro s hs; exact hs
    | cons c l ih => intro s hs; exact ih _ (hr s c hs)
  unfold State.pass
  exact loop _ _ hi _ (loop _ _ hc s hs)

/-! ### Notices -/

theorem postInto_ne_nil (q : List NoticeEntry) (n : Notice) : postInto q n ≠ [] := by
  unfold postInto
  split
  · rename_i h
    cases q with
    | nil => simp at h
    | cons x l => simp
  · simp

@[simp] theorem kind_mergeNotice (n : Notice) (x : NoticeEntry) : (mergeNotice n x).notice.kind = x.notice.kind := by
  unfold mergeNotice
  split
  · rename_i h; exact h.symm
  · rfl

/-- The kinds after a posting. -/
theorem postInto_kinds (q : List NoticeEntry) (n : Notice) :
    (postInto q n).map (fun x => x.notice.kind) =
      if n.kind ∈ q.map (fun x => x.notice.kind) then q.map (fun x => x.notice.kind)
      else q.map (fun x => x.notice.kind) ++ [n.kind] := by
  unfold postInto
  by_cases h : n.kind ∈ q.map (fun x => x.notice.kind)
  · rw [if_pos h, if_pos]
    · rw [List.map_map]; exact List.map_congr_left (fun x _ => kind_mergeNotice n x)
    · obtain ⟨x, hx, hk⟩ := List.mem_map.mp h
      exact List.any_eq_true.mpr ⟨x, hx, by simp [hk]⟩
  · rw [if_neg h, if_neg]
    · simp
    · intro hany
      obtain ⟨x, hx, hk⟩ := List.any_eq_true.mp hany
      exact h (List.mem_map.mpr ⟨x, hx, by simpa using hk⟩)

theorem chooseFrom_mem {α : Type} (free turn : Nat) (first : α) (rest : List α) :
    chooseFrom free turn first rest ∈ first :: rest := by
  unfold chooseFrom
  cases rest with
  | nil => exact List.mem_singleton.mpr rfl
  | cons a l =>
    have hlt : Config.freePick free turn % ((a :: l).length + 1) < (first :: a :: l).length :=
      Nat.mod_lt _ (Nat.succ_pos _)
    simp only
    rw [List.getD_eq_getElem _ _ hlt]
    exact List.getElem_mem hlt

/-- Whatever the free order, the new notices are the same ones. -/
theorem interleave_perm (free n : Nat) (l : List NoticeEntry) : (interleave free n l).Perm l := by
  induction n generalizing l with
  | zero => exact List.Perm.refl l
  | succ n ih =>
    unfold interleave
    split
    · exact List.Perm.refl l
    · exact List.Perm.refl l
    · dsimp only
      split
      · exact List.Perm.refl l
      · rename_i x hx
        exact ((ih _).cons x).trans (List.perm_cons_erase (List.mem_of_find?_eq_some hx)).symm

theorem orderNotices_perm (free old : Nat) (q : List NoticeEntry) : (orderNotices free old q).Perm q := by
  unfold orderNotices
  exact ((List.Perm.refl _).append (interleave_perm free 8 _)).trans (by rw [List.take_append_drop])

/-! ### The end of an event -/

/-- What the end of an event leaves as the event left it. -/
theorem finish_link_reply (s0 s : State) : (finish s0 s).link.reply = s.link.reply := rfl

theorem finish_link_attnLow (s0 s : State) :
    (finish s0 s).link.attnLow = (s.link.reply.isSome || !(finish s0 s).board.notices.isEmpty) := rfl

/-- What it takes for an ENTER at the front of the queue to be accepted (R5). -/
theorem acceptsEnter_cases {s : State} (h : s.acceptsEnter s.pending.head? = true) :
    s.board.phase = .idle ∧ ∃ target dwell rest p, s.pending = .enter target dwell :: rest ∧ s.isReady
      ∧ s.store.saving = none ∧ s.store.unconfigured = false ∧ s.inputs.acokHigh = true ∧ platformOf target = some p
      ∧ s.board.platform.rank ≤ p.rank ∧ (dwell = 0 ∨ (s.board.platform = .working ∧ p = .doze)) := by
  unfold State.acceptsEnter at h
  cases hp : s.pending with
  | nil => simp [hp] at h
  | cons c rest =>
    rw [hp] at h
    simp only [List.head?_cons] at h
    split at h
    · rename_i target dwell hc
      cases hc
      simp only [Bool.and_eq_true, Option.isNone_iff_eq_none] at h
      obtain ⟨⟨hu, hr⟩, hk⟩ := h
      have hk : ∃ p, enterCheck s target dwell = .ok p := by
        revert hk
        cases enterCheck s target dwell with
        | ok p => exact fun _ => ⟨p, rfl⟩
        | error x => intro h; cases h
      obtain ⟨p, hk⟩ := hk
      unfold enterCheck at hk
      split at hk
      · cases hk
      rename_i hb
      split at hk
      · cases hk
      rename_i p0 hpl
      split at hk
      · cases hk
      rename_i h1
      split at hk
      · cases hk
      rename_i h2
      split at hk
      · cases hk
      rename_i h3
      split at hk
      · cases hk
      rename_i h4
      obtain rfl : p0 = p := by injection hk
      simp only [Bool.or_eq_true, decide_eq_true_eq, not_or, State.isSaving, Decidable.not_not, Option.isSome_iff_ne_none] at hb
      refine ⟨hb.1, target, dwell, rest, p0, rfl, ⟨hu, hr⟩, hb.2, by simpa using h1, by simpa using h2, hpl, by omega, ?_⟩
      by_cases hd : dwell = 0
      · exact .inl hd
      · right
        have : enterKind s.board.platform p0 = .dozeIn := by
          by_contra hne; exact h4 ⟨hd, hne⟩
        revert this
        generalize s.board.platform = q
        cases q <;> cases p0 <;> decide
    · cases h

/-- Where an ENTER can come before the claims of an event (R7): the engine stands IDLE before and after the event, with
no follow-on, recovery claim or lockout to come, and the ENTER waits directly behind. -/
theorem enterFirst_cases {s0 s : State} (h : enterFirst s0 s = true) :
    s.acceptsEnter s.pending.head? = true ∧ s0.board.phase = .idle ∧ s.board.followOn = none
      ∧ ¬(s.board.recovery = true ∧ s.board.platform = .working)
      ∧ ¬(s.board.platform = .off ∧ s.board.counter = 3 ∧ s.board.lockout = .none) := by
  unfold enterFirst at h
  simp only [Bool.and_eq_true, beq_iff_eq, Bool.not_eq_true', ← Bool.not_eq_true, Option.isNone_iff_eq_none,
    recoveryHolds] at h
  obtain ⟨⟨⟨⟨⟨ha, hi⟩, hf⟩, hr⟩, hl⟩, _⟩ := h
  exact ⟨ha, hi, hf, hr, fun hq => hl ⟨⟨hq.1, hq.2.1⟩, hq.2.2⟩⟩

/-- Without an ENTER directly behind the event the engine makes its changes. -/
theorem enterFirst_of_none (s0 s : State) (h : s.acceptsEnter s.pending.head? = false) : enterFirst s0 s = false := by
  simp only [enterFirst, h, Bool.false_and]

/-- A property of boards that the engine's changes and arrivals keep, and that neither marks of discharges nor the order
of notices nor the end of the event's listing touch, holds at the end of an event. -/
theorem finishBoard_induct (s0 s : State) (P : Board → Prop)
    (hstep : ∀ b t, P b → engineStep s.env b = some t → P t) (harrive : ∀ b id, P b → P (arrive s.env b id))
    (hmark : ∀ b, P b → P (markDischarges s0.board b))
    (horder : ∀ b q, q.Perm b.notices → P b → P { b with notices := q, listedNow := [] }) (hb : P s.board) :
    P (finishBoard s0 s) := by
  have settled := settleEvent_induct s0 s P hstep
  unfold finishBoard
  exact horder _ _ (orderNotices_perm _ _ _)
    (hmark _ (rearm_induct s0 s _ P settled harrive 8 [] _ (settled _ hb)))

/-! ### The round mode -/

theorem takeMode_mode (m : Monitor) (b : Board) (now interval : Nat) : (takeMode m b now interval).mode = modeFor b := by
  unfold takeMode
  split
  · rename_i h _; rw [h]; unfold startContinuous; split <;> [rfl; rfl; (split <;> rfl)]
  · rename_i h _; rw [h]; rfl
  · rename_i h k; rw [h, k]
  · rename_i h k; rw [h, k]

/-! ### The law of bindings (R33) -/

@[simp] theorem clampBody_channel (x : NodeBody) : (clampBody x).channel = x.channel := by
  rcases x with ⟨_ | _ | _, _, _, _⟩ | _ | _ <;> rfl

@[simp] theorem clampBody_input (x : NodeBody) : (clampBody x).input = x.input := by
  rcases x with ⟨_ | _ | _, _, _, _⟩ | _ | _ <;> rfl

/-- A clamp leaves what a record binds. -/
theorem bindClash_clampNode (r q : NodeRecord) : bindClash (clampNode r) q = bindClash r q := by
  simp [bindClash, clampNode]

theorem clashes_clampNode (cfg : WorkingConfig) (i : Slot) (r : NodeRecord) :
    clashes cfg i (clampNode r) = clashes cfg i r := by
  simp only [clashes, bindClash_clampNode]

/-- Two records that do not clash share no output line, no channel and no input. -/
theorem bindClash_false {r q : NodeRecord} (h : bindClash r q = false) :
    r.output ≠ q.output ∧ (∀ c, r.body.channel = some c → q.body.channel ≠ some c)
      ∧ ∀ d, r.body.input = some d → q.body.input ≠ some d := by
  simp only [bindClash, Bool.or_eq_false_iff, Bool.and_eq_false_iff, beq_eq_false_iff_ne] at h
  obtain ⟨⟨ho, hc⟩, hd⟩ := h
  refine ⟨ho, fun c h1 h2 => ?_, fun d h1 h2 => ?_⟩
  · rcases hc with hc | hc
    · simp [h1] at hc
    · exact hc (h1.trans h2.symm)
  · rcases hd with hd | hd
    · simp [h1] at hd
    · exact hd (h1.trans h2.symm)

theorem clashes_false {cfg : WorkingConfig} {i : Slot} {r : NodeRecord} (h : clashes cfg i r = false) (j : Slot)
    (q : NodeRecord) (hj : j ≠ i) (hq : cfg.node j = some q) : bindClash r q = false := by
  have := List.any_eq_false.mp h j (mem_slots j)
  simpa [hj, hq] using this

theorem node_putNode (cfg : WorkingConfig) (i j : Slot) (rec : Option NodeRecord) :
    (cfg.putNode i rec).node j = if j = i then rec else cfg.node j := by
  by_cases h : j = i
  · subst h; simp [WorkingConfig.putNode, WorkingConfig.node, Vector.get_eq_getElem]
  · have : i.val ≠ j.val := fun e => h (Fin.ext e.symm)
    simp [WorkingConfig.putNode, WorkingConfig.node, Vector.get_eq_getElem, h, this]

/-- The CLASH check keeps the law of bindings (R33, R43). -/
theorem bindingsUnique_putNode {cfg : WorkingConfig} (h : bindingsUnique cfg) (i : Slot) (rec : Option NodeRecord)
    (hr : ∀ r, rec = some r → clashes cfg i r = false) : bindingsUnique (cfg.putNode i rec) := by
  have fresh : ∀ j r q, j ≠ i → rec = some r → cfg.node j = some q → bindClash r q = false :=
    fun j r q hj h1 h2 => clashes_false (hr r h1) j q hj h2
  refine ⟨fun a b r q ha hb e => ?_, fun a b r q c ha hb h1 h2 => ?_, fun a b r q d ha hb h1 h2 => ?_⟩
  all_goals
    rw [node_putNode] at ha hb
    by_cases hai : a = i <;> by_cases hbi : b = i
    · exact hai.trans hbi.symm
    · rw [if_pos hai] at ha; rw [if_neg hbi] at hb
      have := bindClash_false (fresh b r q hbi ha hb)
      first | exact absurd e this.1 | exact absurd h2 (this.2.1 c h1) | exact absurd h2 (this.2.2 d h1)
    · rw [if_neg hai] at ha; rw [if_pos hbi] at hb
      have := bindClash_false (fresh a q r hai hb ha)
      first | exact absurd e.symm this.1 | exact absurd h1 (this.2.1 c h2) | exact absurd h1 (this.2.2 d h2)
    · rw [if_neg hai] at ha; rw [if_neg hbi] at hb
      first | exact h.1 a b r q ha hb e | exact h.2.1 a b r q c ha hb h1 h2 | exact h.2.2 a b r q d ha hb h1 h2

/-! ### Requests: what each kind of answer does to a link that is ready -/

/-- A link that is ready takes the write it is sent. -/
theorem writeCase_of_ready {s : State} (h : s.isReady) : s.writeCase = .ready := by
  unfold State.writeCase; simp [h.1, h.2]

/-- A small number survives as one byte. -/
theorem byte1_toNat {n : Nat} (h : n < 256) : (byte1 n).toNat = n := by
  unfold byte1; rw [BitVec.toNat_ofNat]; omega

/-- Every byte of a well-formed write frame is acknowledged. -/
theorem acksOfWrite_writeFrame (type : Nat) (p : List Byte) (h : p.length ≤ 32) :
    acksOfWrite (writeFrame type p) = List.replicate (p.length + 3) true := by
  have hl : (byte1 p.length).toNat = p.length := byte1_toNat (by omega)
  simp only [acksOfWrite, writeFrame, hl, maxLen]
  rw [if_neg (by omega), Nat.min_self, Nat.sub_self, List.replicate_zero, List.append_nil]
  rfl

/-- A request that the link takes: its reply stands, and then what it starts follows. -/
theorem request_of_ready {s : State} (h : s.isReady) (type : Nat) (p : List Byte) (hp : p.length ≤ 32)
    (owner : State → Answer) : s.request type p owner =
      (let t := (owner s).state.withReply (p.length + 2) (replyFrame type (owner s).status (owner s).contents)
       if (owner s).follows then finish s t else t) := by
  unfold State.request
  rw [writeCase_of_ready h]
  simp only [if_neg (Nat.not_lt.mpr hp)]
  simp only [Answer.place, State.placeReply, acksOfWrite_writeFrame type p hp]
  rfl

/-- A refused request changes nothing but the reply slot. -/
theorem request_refused {s : State} (h : s.isReady) (type : Nat) (p : List Byte) (hp : p.length ≤ 32)
    (owner : State → Answer) (st : Status) (ho : owner s = .refuse s st) :
    s.request type p owner = s.withReply (p.length + 2) (refusal type st.code) := by
  rw [request_of_ready h type p hp, ho]; rfl

/-- A request that is answered with contents. -/
theorem request_told {s : State} (h : s.isReady) (type : Nat) (p : List Byte) (hp : p.length ≤ 32)
    (owner : State → Answer) (c : List Byte) (ho : owner s = .tell s c) :
    s.request type p owner = s.withReply (p.length + 2) (replyFrame type .ok c) := by
  rw [request_of_ready h type p hp, ho]; rfl

/-- A request that changes the state and starts nothing. -/
theorem request_done {s : State} (h : s.isReady) (type : Nat) (p : List Byte) (hp : p.length ≤ 32)
    (owner : State → Answer) (t : State) (st : Status) (ho : owner s = .done t st) :
    s.request type p owner = t.withReply (p.length + 2) [byte1 (type + 0x80), 1, byte1 st.code] := by
  rw [request_of_ready h type p hp, ho]; rfl

/-- A request that starts work: the engine's passes follow the reply. -/
theorem request_started {s : State} (h : s.isReady) (type : Nat) (p : List Byte) (hp : p.length ≤ 32)
    (owner : State → Answer) (t : State) (st : Status) (ho : owner s = .starts t st) :
    s.request type p owner = finish s (t.withReply (p.length + 2) [byte1 (type + 0x80), 1, byte1 st.code]) := by
  rw [request_of_ready h type p hp, ho]; rfl

end Sys2Proof.Machine
end

