-- ==== Sys2Proof/Laws/Engine.lean ====
section
/-! SUPPORT. The prerequisite graph as propositions, the ends of LOWERING and RAISING as propositions, and the changes
each phase of the engine can make, one disjunct each. -/

namespace Sys2Proof.Machine

/-! ### The graph -/

theorem prereqsGood_iff (b : Board) (cfg : WorkingConfig) (i : Slot) :
    b.prereqsGood cfg i = true ↔ ∀ p ∈ cfg.prereqs i, (b.stateOf p).isGood = true := by
  simp [Board.prereqsGood, List.all_eq_true]

theorem dependentsDown_iff (b : Board) (cfg : WorkingConfig) (i : Slot) :
    b.dependentsDown cfg i = true ↔ ∀ d ∈ cfg.dependents i, (b.stateOf d).isDown = true := by
  simp [Board.dependentsDown, List.all_eq_true]

theorem mem_dependents (cfg : WorkingConfig) (i d : Slot) : d ∈ cfg.dependents i ↔ cfg.lists d i := by
  simp [WorkingConfig.dependents, WorkingConfig.lists, mem_slots]

theorem slots_sorted : slots.Pairwise (· < ·) := by decide

/-- What is reached has a path to the start. -/
theorem reach_sound (cfg : WorkingConfig) (i : Slot) (n : Nat) (l : List Slot)
    (h : ∀ d ∈ l, Relation.TransGen cfg.lists d i) : ∀ d ∈ cfg.reach n l, Relation.TransGen cfg.lists d i := by
  induction n generalizing l with
  | zero => exact h
  | succ n ih =>
    refine ih _ fun d hd => ?_
    simp only [List.mem_filter, Bool.or_eq_true, List.contains_iff_mem, List.any_eq_true] at hd
    rcases hd.2 with hd | ⟨p, hp, hpl⟩
    · exact h d hd
    · exact .head hp (h p hpl)

theorem reach_contains (cfg : WorkingConfig) (n : Nat) (l : List Slot) : ∀ d ∈ l, d ∈ cfg.reach n l := by
  induction n generalizing l with
  | zero => exact fun d h => h
  | succ n ih => exact fun d h => ih _ d (by simp [h, mem_slots])

theorem reach_sorted (cfg : WorkingConfig) (n : Nat) (l : List Slot) (h : l.Pairwise (· < ·)) :
    (cfg.reach n l).Pairwise (· < ·) := by
  induction n generalizing l with
  | zero => exact h
  | succ n ih => exact ih _ (slots_sorted.filter _)

theorem reach_one (cfg : WorkingConfig) (l : List Slot) :
    cfg.reach 1 l = slots.filter (fun d => l.contains d || (cfg.prereqs d).any l.contains) := rfl

/-- A list that one more round leaves as it is stays so. -/
theorem reach_fixed (cfg : WorkingConfig) (n : Nat) (l : List Slot) (hl : cfg.reach 1 l = l) : cfg.reach n l = l := by
  induction n with
  | zero => rfl
  | succ n ih => show cfg.reach n (cfg.reach 1 l) = l; rw [hl, ih]

/-- Each round grows a sorted list or leaves it, so as many rounds as there are slots close it. -/
theorem reach_closed (cfg : WorkingConfig) (n : Nat) (l : List Slot) (h : l.Pairwise (· < ·)) (hn : 20 ≤ n + l.length) :
    cfg.reach 1 (cfg.reach n l) = cfg.reach n l := by
  have grows : ∀ l : List Slot, l.Pairwise (· < ·) → l.Sublist (cfg.reach 1 l) := fun l h => by
    refine List.sublist_of_subperm_of_pairwise (r := (· < ·)) ?_ h (by rw [reach_one]; exact slots_sorted.filter _)
    exact List.subperm_of_subset (h.imp (fun hab => ne_of_lt hab)) (reach_contains cfg 1 l)
  induction n generalizing l with
  | zero =>
    have : (cfg.reach 1 l).length ≤ 20 := by rw [reach_one]; exact List.length_filter_le _ slots
    exact ((grows l h).eq_of_length_le (by simp only [Nat.zero_add] at hn; omega)).symm
  | succ n ih =>
    by_cases hl : cfg.reach 1 l = l
    · rw [reach_fixed cfg _ l hl, hl]
    · refine ih _ (slots_sorted.filter _) ?_
      have : l.length < (cfg.reach 1 l).length :=
        lt_of_le_of_ne (grows l h).length_le fun hc => hl ((grows l h).eq_of_length hc).symm
      show 20 ≤ n + (cfg.reach 1 l).length
      omega

/-- The slots below one are its transitive dependents. -/
theorem mem_below (cfg : WorkingConfig) (i d : Slot) : d ∈ cfg.below i ↔ Relation.TransGen cfg.lists d i := by
  constructor
  · exact reach_sound cfg i 20 _ (fun d hd => .single ((mem_dependents cfg i d).1 hd)) d
  · intro h
    have hc := reach_closed cfg 20 (cfg.dependents i) (slots_sorted.filter _) (by omega)
    induction h using Relation.TransGen.head_induction_on with
    | single h => exact reach_contains cfg 20 _ _ ((mem_dependents cfg i _).2 h)
    | head h _ ih =>
      unfold WorkingConfig.below at ih ⊢
      rw [← hc, reach_one]
      simp only [List.mem_filter, mem_slots, true_and, Bool.or_eq_true, List.any_eq_true, List.contains_iff_mem]
      exact .inr ⟨_, h, ih⟩

/-! ### The issue list -/

/-- Listing moves nothing out of the list and puts nothing else into it. -/
theorem enlist_perm (b : Board) (act : ActKind) (l : List Slot) :
    (enlist b act l).issue.Perm (b.issue ++ l.map (⟨·, act⟩)) := by
  unfold enlist
  have old := List.filter_append_perm (fun a => b.listedNow.contains a.slot) b.issue
  refine (List.Perm.append_left _ (List.perm_insertionSort _ _)).trans ?_
  rw [← List.append_assoc]
  exact List.Perm.append_right _ (List.perm_append_comm.trans old)

/-- What is on the list after a listing. -/
theorem mem_enlist (b : Board) (act : ActKind) (l : List Slot) (a : Action) :
    a ∈ (enlist b act l).issue ↔ a ∈ b.issue ∨ ∃ i ∈ l, a = ⟨i, act⟩ := by
  rw [(enlist_perm b act l).mem_iff]
  simp [eq_comm]

/-! ### The ends of LOWERING and RAISING -/

theorem loweringOver_iff (b : Board) : loweringOver b = true ↔ b.emptyChange = true ∨
    ∀ i, ((b.node i).member = some false → (b.stateOf i).isDown = true) ∧ (b.stateOf i).isFalling = false := by
  simp only [loweringOver, Board.allStates, Bool.or_eq_true, Bool.and_eq_true, List.all_eq_true, mem_slots, true_implies,
    ← forall_and]
  refine or_congr_right (forall_congr' fun i => ?_)
  rcases (b.node i).member with _ | _ | _ <;> simp

theorem raisingOver_iff (e : Env) (b : Board) : raisingOver e b = true ↔ b.emptyChange = true ∨
    ∀ i, resolved (b.node i) = true ∧ ((b.node i).member ≠ none → (b.stateOf i).isFaulted = true → e.cfg.critical i = false)
      ∧ (b.stateOf i).isFalling = false ∧ b.stateOf i ≠ .queued := by
  simp only [raisingOver, Board.allStates, Bool.or_eq_true, Bool.and_eq_true, List.all_eq_true, mem_slots, true_implies,
    ← forall_and]
  refine or_congr_right (forall_congr' fun i => ?_)
  cases (b.node i).member <;> cases (b.stateOf i).isFaulted <;> cases e.cfg.critical i <;> simp

/-! ### The changes of each phase -/

/-- The first of two changes that is called for. -/
theorem orElse_some {x y : Option Board} {t : Board} : (x <|> y) = some t → x = some t ∨ y = some t := by
  cases x with
  | none => exact .inr
  | some u => exact .inl

theorem loweringStep_cases {e : Env} {b t : Board} (h : loweringStep e b = some t) :
    purgeStep b = some t ∨ levelStep e b = some t ∨ rejoinStep e b = some t ∨ blockTestStep e b = some t
      ∨ eligibleStep b .off (offEligible e b) = some t ∨ issueStep e b = some t
      ∨ (loweringOver b = true ∧ t = { b with phase := .raising }) := by
  unfold loweringStep at h
  repeat (rcases orElse_some h with h | h; · simp [h])
  split at h
  · rename_i ho; cases h; simp [ho]
  · cases h

theorem raisingStep_cases {e : Env} {b t : Board} (h : raisingStep e b = some t) :
    purgeStep b = some t ∨ blockStep e b = some t ∨ retryStep e b = some t
      ∨ eligibleStep b .on (onEligible e b) = some t ∨ issueStep e b = some t ∨ grantStep e b = some t
      ∨ (raisingOver e b = true ∧ t = endRaising e b) := by
  unfold raisingStep at h
  repeat (rcases orElse_some h with h | h; · simp [h])
  split at h
  · rename_i ho; cases h; simp [ho]
  · cases h

theorem reversingStep_cases {e : Env} {b t : Board} (h : reversingStep e b = some t) :
    purgeStep b = some t ∨ undoneStep b = some t ∨ undoStep e b = some t ∨ issueStep e b = some t
      ∨ grantStep e b = some t ∨ (reversingOver b = true ∧ t = endReversing e b) := by
  unfold reversingStep at h
  repeat (rcases orElse_some h with h | h; · simp [h])
  split at h
  · rename_i ho; cases h; simp [ho]
  · cases h

/-- What an IDLE engine does: the RESUME lockout, the follow-on, or a claim. -/
theorem idleStep_cases {e : Env} {b t : Board} (h : idleStep e b = some t) :
    t = setLockout b .resume ∨ (∃ f, b.followOn = some f ∧ t = takeFollowOn e b f)
      ∨ (b.followOn = none ∧ takeClaim e b = some t) := by
  unfold idleStep at h
  split at h
  · cases h; exact .inl rfl
  · split at h
    · rename_i f hf; cases h; exact .inr (.inl ⟨f, hf, rfl⟩)
    · rename_i hf; exact .inr (.inr ⟨hf, h⟩)

end Sys2Proof.Machine
end

