-- ==== Sys2Proof/Tests/Slice0.lean ====
section
/-! SUPPORT. Small checks of the model: ill-formed commands refused, frames written out byte by byte, one step of each
command, and for each statement with hypotheses a state and operands that meet them. -/

namespace Sys2Proof.Tests

open Sys2Proof Sys2Proof.Machine

set_option Elab.async false

/-! ### Ill-formed commands are refused -/

theorem test_illFormed_nodePut : Instr.wf (.nodePut (List.replicate 33 0)) = false := by decide
theorem test_wellFormed_nodePut : Instr.wf (.nodePut (List.replicate 32 0)) = true := by decide
/-- A good STATUS frame is no INVALID_REQUEST. -/
theorem test_illFormed_invalidRequest : Instr.wf (.invalidRequest [0x01, 0]) = false := by decide
/-- A good STATUS frame with a byte beyond LEN has no row of its own (entry 15). -/
theorem test_wellFormed_surplus : Instr.wf (.invalidRequest [0x01, 0, 0xAA]) = true := by decide
theorem test_wellFormed_invalidRequest : Instr.wf (.invalidRequest [0x01]) = true := by decide
theorem test_illFormed_ignoredWrite : Instr.wf (.ignoredWrite []) = false := by decide

/-! ### Frames written out from Table 11-1 and R199 -/

theorem test_frame_status : commandOfWrite [0x01, 0x00] 0x3A = some .status := by decide
theorem test_frame_enter : commandOfWrite [0x02, 0x03, 0x01, 0x1E, 0x00] 0x3A = some (.enter 1 30) := by decide
theorem test_frame_wake : commandOfWrite [0x03, 0x00] 0x3A = some .wake := by decide
theorem test_frame_checkin : commandOfWrite [0x04, 0x00] 0x3A = some .checkin := by decide
theorem test_frame_hold : commandOfWrite [0x05, 0x01, 0x01] 0x3A = some (.hold 1) := by decide
theorem test_frame_proceed : commandOfWrite [0x06, 0x00] 0x3A = some .proceed := by decide
theorem test_frame_last : commandOfWrite [0x07, 0x00] 0x3A = some .last := by decide
theorem test_frame_nodeGet : commandOfWrite [0x10, 0x01, 0x13] 0x3A = some (.nodeGet 19) := by decide
theorem test_frame_nodePut : commandOfWrite [0x11, 0x02, 0x05, 0x00] 0x3A = some (.nodePut [5, 0]) := by decide
theorem test_frame_clearFault : commandOfWrite [0x12, 0x01, 0x00] 0x3A = some (.clearFault 0) := by decide
theorem test_frame_readRail : commandOfWrite [0x13, 0x01, 0x02] 0x3A = some (.readRail 2) := by decide
theorem test_frame_sourceGet : commandOfWrite [0x18, 0x01, 0x09] 0x3A = some (.sourceGet 9) := by decide
theorem test_frame_sourcePut : commandOfWrite [0x19, 0x09, 0x03, 0x02, 0x05, 0x04, 0xD0, 0x07, 0x05, 0x06, 0x01] 0x3A
    = some (.sourcePut ⟨3, 2, 5, 4, 2000, 5, 6, 1⟩) := by decide
theorem test_frame_settingsGet : commandOfWrite [0x1C, 0x00] 0x3A = some .settingsGet := by decide
theorem test_frame_settingsPut : commandOfWrite [0x1D, 0x08, 0x50, 0x01, 0x58, 0x02, 0x04, 0x64, 0x00, 0x01] 0x3A
    = some (.settingsPut ⟨80, 1, 600, 4, 100, 1⟩) := by decide
theorem test_frame_save : commandOfWrite [0x1E, 0x00] 0x3A = some .save := by decide
theorem test_frame_unknownType : commandOfWrite [0x08, 0x00] 0x3A = some (.invalidRequest [0x08, 0x00]) := by decide
theorem test_frame_tooLong : commandOfWrite [0x01, 0x21] 0x3A = some (.ignoredWrite [0x01, 0x21]) := by decide

/-! ### States and records the tests use -/

/-- The state a command leaves; the state itself where it would stop. -/
def after (c : Instr) (s : State) : State :=
  match exec c s with
  | .next t => t
  | .fault _ | .refused _ => s

/-- A running part with an empty table, IDLE in OFF. -/
def up : State := { State.reset with startup := .running }

/-- The same in a platform state. -/
def upIn (p : Platform) : State := { up with board := { up.board with platform := p } }

/-- An open record. -/
def rec (k : Kind) (p q : Platform) : Record := ⟨k, p, q, none, some .request, none, none, none, none, [], 0⟩

/-- A running part in a phase with an open record. -/
def inPhase (ph : Phase) (k : Kind) (p q : Platform) : State :=
  { up with board := { up.board with platform := p, phase := ph, record := some (rec k p q) } }

/-- A RAIL with an ANALOG source: 3300 mV on channel 2, on in WORKING. -/
def analogRail : NodeRecord where
  output := 3
  polarity := .high
  levels := ⟨true, false, false, false⟩
  prereqs := []
  severity := .critical
  irreversible := true
  ramp := 20
  settle := 5
  discharge := 30
  body := .rail (.analog 2 ⟨3300, 4883, 50, 50, 33, 100⟩ 2 3) 1 40 1

/-- A SIGNAL with an active-low output and no settle time. -/
def signalNode : NodeRecord :=
  { analogRail with output := 0, polarity := .low, settle := 0, severity := .tolerated, irreversible := false, body := .signal }

/-- A HANDSHAKE on input 4. -/
def handshakeNode : NodeRecord := { signalNode with output := 15, body := .handshake 4 .high 1 }

/-- A node in a state of a slot that holds nothing else. -/
def nodeIn (st : NodeState) (dl : Option Deadline) : Node := { Node.reset with state := st, deadline := dl }

/-- A state with a record and a node in a slot, its line at the level of its state. -/
def State.with (s : State) (i : Slot) (r : NodeRecord) (n : Node) : State :=
  { s with
    cfg := { s.cfg with nodes := s.cfg.nodes.set i.val (some r) i.isLt }
    board := (s.board.setNode i n).drive r.output (.driven (r.outLevel n.state.level)) }

/-- Readings of one code and one level everywhere. -/
def readings (c : Code) (l : Level) : Readings := ⟨Vector.replicate 12 c, Vector.replicate 12 l⟩

/-- A line record armed in OFF. -/
def lineRecord (m : WakeMode) (debounce edges : Nat) : LineRecord := ⟨m, debounce, edges, 50, ⟨false, false, true⟩, 3, .reverse⟩

/-- A running part with a record on WK0, whose pin is at a level. -/
def withLine (r : LineRecord) (level : Level) : State :=
  { up with
    cfg := { up.cfg with lines := up.cfg.lines.set 0 r }
    pins := { up.pins with wk := up.pins.wk.set 0 level } }

/-- The levels of a board at rest. -/
def pinsNormal : Pins := ⟨Vector.replicate 8 .high, .high, .high, .high, .low⟩

theorem ready_up : up.isReady := ⟨rfl, rfl⟩

/-! ### Numbers of the manual -/

/-- The check value of the CRC that R201 names. -/
theorem test_crc_checkValue : crc16 [0x31, 0x32, 0x33, 0x34, 0x35, 0x36, 0x37, 0x38, 0x39] = 0x29B1 := by decide +kernel
/-- A part's image has 742 bytes and loads. -/
theorem test_image_default : (encodeImage .default).length = 742
    ∧ loadResult (.bytes (encodeImage .default)) = .ok := by decide +kernel
theorem test_millivolts : millivolts 676 4883 = 3300 ∧ millivolts 1023 4883 = 4995 := by decide
theorem test_thresholds : (Window.goodLow ⟨3300, 4883, 50, 50, 33, 100⟩ = 3135)
    ∧ (Window.goodHigh ⟨3300, 4883, 50, 50, 33, 100⟩ = 3465) ∧ (Window.holdLow ⟨3300, 4883, 50, 50, 33, 100⟩ = 3102)
    ∧ (Window.holdHigh ⟨3300, 4883, 50, 50, 33, 100⟩ = 3498)
    ∧ (Window.discharged ⟨3300, 4883, 50, 50, 33, 100⟩ = 330) := by decide

/-! ### Requests, one step each -/

theorem test_status : (after .status up).link.reply
    = some [0x81, 12, 0x00, 3, 0, 0, 0xFF, 0, 0, 0, 0, 1, 0, 0] := by decide +kernel
theorem test_status_notUp : (after .status State.reset).link.acks = [false] := by decide +kernel
theorem test_enter : (after (.enter 1 30) (upIn .working)).board.platform = .doze
    ∧ (after (.enter 1 30) (upIn .working)).board.dwell = .running 30 1800000
    ∧ (after (.enter 1 30) (upIn .working)).link.reply = some [0x82, 1, 0x01] := by decide +kernel
theorem test_enter_range : (after (.enter 4 0) up).link.reply = some [0x82, 1, 0x12] := by decide +kernel
theorem test_wake_unarmed : (after .wake up).link.reply = some [0x83, 1, 0x11] := by decide +kernel
theorem test_wake : (after .wake { up with cfg := { up.cfg with link := ⟨⟨false, false, true⟩, 7, .defer⟩ } }).board.platform
    = .working := by decide +kernel
theorem test_checkin : (after .checkin { up with board := { up.board with
    watchdog := .armed 120000 0 false .up .completed, counter := 2 } }).board.counter = 0 := by decide +kernel
theorem test_hold : (after (.hold 1) up).board.stepHold = true
    ∧ (after (.hold 2) up).link.reply = some [0x85, 1, 0x12] := by decide +kernel
theorem test_proceed_nothingHeld : (after .proceed up).link.reply = some [0x86, 1, 0x11] := by decide +kernel
theorem test_last_none : (after .last up).link.reply = some [0x87, 1, 0x11] := by decide +kernel
theorem test_nodeGet : (after (.nodeGet 2) (State.with up 2 signalNode .reset)).link.reply
    = some [0x90, 29, 0x00, 2, 2, 0, 0, 0, 0, 1, 0, 0xFF, 0xFF, 0xFF, 0xFF, 0, 0, 20, 0, 0, 0, 30, 0, 0, 0,
      0, 0xFF, 0, 0, 0, 0] := by decide +kernel
theorem test_nodePut : ((after (.nodePut [2, 2, 0, 0, 0, 0, 1, 0, 0xFF, 0xFF, 0xFF, 0xFF, 0, 0, 20, 0, 0, 0, 30, 0, 0, 0])
    up).cfg.node 2 = some signalNode) ∧ (after (.nodePut [2, 2]) up).link.reply = some [0x91, 1, 0x18] := by decide +kernel
theorem test_clearFault : (after (.clearFault 2) (State.with up 2 signalNode (nodeIn (.faulted .blocked) none))).board.stateOf 2
    = .off := by decide +kernel
theorem test_readRail : (after (.readRail 1) (State.with up 1 analogRail .reset)).link.reply
    = some [0x93, 8, 0x00, 0, 0, 0, 0, 0, 0, 0xFF] := by decide +kernel
theorem test_sourceGet : (after (.sourceGet 0) up).link.reply
    = some [0x98, 13, 0x00, 3, 0, 1, 1, 0, 0, 7, 1, 0, 0, 0, 0xFF] := by decide +kernel
theorem test_sourcePut : ((after (.sourcePut ⟨0, 0, 5, 0, 0, 4, 9, 0⟩) up).cfg.line 0
      = ⟨.levelHigh, 5, 1, 1, ⟨false, false, true⟩, 7, .reverse⟩)
    ∧ (after (.sourcePut ⟨0, 0, 5, 0, 0, 4, 9, 0⟩) up).qual 0 = ⟨.debouncing, some 5, 0, none⟩ := by decide +kernel
theorem test_settingsGet : (after .settingsGet up).link.reply
    = some [0x9C, 9, 0x00, 80, 0, 120, 0, 4, 100, 0, 0] := by decide +kernel
theorem test_settingsPut : (after (.settingsPut ⟨0, 1, 601, 16, 9, 1⟩) up).cfg.settings
      = ⟨1, .rotating, 600, 15, 10, .powerOn⟩
    ∧ (after (.settingsPut ⟨0, 1, 601, 16, 9, 1⟩) up).link.reply = some [0x9D, 1, 0x02] := by decide +kernel
theorem test_save : (after .save up).store.image = .torn
    ∧ (after .save up).link.reply = some [0x9E, 1, 0x01] := by decide +kernel

/-! ### Other bus transactions -/

theorem test_invalidRequest : (after (.invalidRequest [0x08, 0]) up).link.reply = some [0x88, 1, 0x19] := by decide +kernel
theorem test_ignoredWrite : (after (.ignoredWrite [0x01, 33, 0]) up).link.acks = [true, true, false, false] := by
  decide +kernel
/-- The request runs, and the byte beyond LEN is refused. -/
theorem test_surplus : (after (.invalidRequest [0x07, 0, 0xAA]) up).link.reply = some [0x87, 1, 0x11]
    ∧ (after (.invalidRequest [0x07, 0, 0xAA]) up).link.acks = [true, true, true, false] := by decide +kernel
theorem test_nodePut_tooLong : (after (.nodePut (List.replicate 33 0)) up).link.reply = none := by decide +kernel
theorem test_readRail_unconfigured : (after (.readRail 1)
    { State.with up 1 analogRail .reset with store := ⟨.noMarker, none, true⟩ }).link.reply = some [0x93, 1, 0x12] := by
  decide +kernel
theorem test_busProbe : (after (.busProbe 0x3A) up).link.acks = [true]
    ∧ (after (.busProbe 0x3B) up).link.acks = [false] := by decide +kernel
theorem test_read_empty : (after (.readTransaction (.whole 3)) up).link.sent = [0, 0, 0xFF] := by decide +kernel
theorem test_read_reply : (after (.readTransaction (.whole 3)) (after .last up)).link.sent = [0x87, 1, 0x11]
    ∧ (after (.readTransaction (.whole 2)) (after .last up)).link.reply = some [0x87, 1, 0x11] := by decide +kernel

/-! ### Part reset, load, the end of a SAVE -/

theorem test_partReset : (after (.partReset 7) { up with now := 5 }).startup = .awaitLoad 12 := by decide +kernel
theorem test_loadEvent_noImage : (after (.loadEvent pinsNormal) State.reset).store.unconfigured = true
    ∧ (after (.loadEvent pinsNormal) State.reset).panel.pattern = .code4 := by decide +kernel
theorem test_loadEvent_image : (after (.loadEvent pinsNormal)
      { State.reset with store := ⟨.bytes (encodeImage .default), none, false⟩ }).board.last.map Record.outcome
    = some (some .completed) := by decide +kernel
theorem test_saveEnd : (after (.saveEnd true) (after .save up)).store.image = .bytes (encodeImage .default) := by
  decide +kernel

/-! ### Rounds and deadlines -/

/-- A RAIL in RAMPING with one sample of two taken, at its round. -/
def ramping : State :=
  let s := { inPhase .raising .up .off .working with monitor := ⟨.continuous, .ready, some 0, none⟩ }
  State.with s 1 analogRail { nodeIn .ramping (some ⟨.ramp, 20⟩) with inCount := 1, member := some true, target := true }

theorem test_continuousRound : (after (.continuousRound (readings 676 .low)) ramping).board.stateOf 1 = .settling
    ∧ (after (.continuousRound (readings 676 .low)) ramping).monitor.nextRound = some 1 := by decide +kernel
theorem test_sleepRoundBegin : (after .sleepRoundBegin { up with monitor := ⟨.sleep, .unpowered, some 0, none⟩ }).monitor
    = ⟨.sleep, .stabilizing 2, none, none⟩ := by decide +kernel
theorem test_sleepRoundPass : (after (.sleepRoundPass (readings 0 .low))
    { up with now := 2, monitor := ⟨.sleep, .stabilizing 2, none, none⟩ }).monitor
    = ⟨.sleep, .unpowered, some 100, some 2⟩ := by decide +kernel
theorem test_rampDeadlineExpiry : (after (.rampDeadlineExpiry 1) { ramping with now := 20 }).board.stateOf 1 = .discharging
    ∧ (after (.rampDeadlineExpiry 1) { ramping with now := 19 }).board.stateOf 1 = .ramping := by decide +kernel
theorem test_settleTimeExpiry : (after (.settleTimeExpiry 1)
    (State.with (upIn .working) 1 analogRail (nodeIn .settling (some ⟨.settle, 0⟩)))).board.stateOf 1 = .good := by
  decide +kernel
theorem test_dischargeDeadlineExpiry : (after (.dischargeDeadlineExpiry 1)
    (State.with up 1 analogRail (nodeIn .discharging (some ⟨.discharge, 0⟩)))).board.stateOf 1 = .faulted .discharge := by
  decide +kernel

/-! ### Wake lines and the panel -/

theorem test_wakeLineChange : ((after (.wakeLineChange 0 .high) (withLine (lineRecord .rising 5 1) .low)).qual 0
    = ⟨.debouncing, some 5, 0, none⟩) := by decide +kernel
theorem test_wakeDebounceExpiry : (after (.wakeDebounceExpiry 0) { withLine (lineRecord .levelHigh 5 1) .high with
    quals := up.quals.set 0 ⟨.debouncing, some 0, 0, none⟩ }).board.platform = .working := by decide +kernel
theorem test_countWindowExpiry : (after (.countWindowExpiry 0) { withLine (lineRecord .rising 5 3) .high with
    quals := up.quals.set 0 ⟨.counting, none, 2, some 0⟩ }).qual 0 = ⟨.idle, none, 0, none⟩ := by decide +kernel
theorem test_pwrbtnChange : (after (.pwrbtnChange .low) up).panel.debounce = some 20 := by decide +kernel
theorem test_buttonDebounceExpiry : (after .buttonDebounceExpiry
    { up with panel := { up.panel with button := .pressDebounce, debounce := some 0 } }).panel.holdTimer = some 4000
    ∧ (after .buttonDebounceExpiry
    { up with panel := { up.panel with button := .pressDebounce, debounce := some 0 } }).board.platform = .working := by
  decide +kernel
theorem test_holdTimerExpiry : (after .holdTimerExpiry
    { upIn .working with panel := { up.panel with holdTimer := some 0 } }).board.last.map Record.cause
    = some (some .longPress) := by decide +kernel
theorem test_segmentExpiry : (after .segmentExpiry
    { upIn .doze with panel := ⟨.released, none, none, none, .slow, some ⟨0, 0⟩, none⟩ }).panel.segment
    = some ⟨1, 1000⟩ := by decide +kernel

/-! ### Supply inputs and the long timers -/

theorem test_inputPinChange : (after (.inputPinChange .acok .low) up).inputs.acokFilter = some 2
    ∧ (after (.inputPinChange .hotshut .low) up).inputs.hotshutFilter = some 2 := by decide +kernel
theorem test_inputFilterExpiry : (after (.inputFilterExpiry .hotshut) { upIn .working with
    pins := { up.pins with hotshut := .low }, inputs := { up.inputs with hotshutFilter := some 0 } }).board.lockout
    = .thermal := by decide +kernel
theorem test_dwellExpiry : (after .dwellExpiry
    { upIn .doze with board := { (upIn .doze).board with dwell := .running 30 0 } }).board.platform = .hibernate := by
  decide +kernel
theorem test_watchdogWarn : (after .watchdogWarn { upIn .working with
      now := 90000, board := { (upIn .working).board with watchdog := .armed 120000 0 false .up .completed } }).board.notices
    = [⟨.warn 30000 0 .up .completed, 1, false⟩] := by decide +kernel
theorem test_watchdogExpiry : (after .watchdogExpiry { upIn .working with
      now := 120000, board := { (upIn .working).board with watchdog := .armed 120000 0 true .up .completed } }).board.counter
    = 1 := by decide +kernel

/-! ### States and operands that meet the hypotheses of the statements

One theorem per statement that has hypotheses, one clause of it per clause of the statement, at the ends of ranges. -/

theorem test_meets_StepRunsTheFrontCommand : State.reset.pending = [] ∧ eventDue State.reset = false
    ∧ eventDue { State.reset with now := 5 } = true := by decide +kernel

/-- A state whose finish goes from CONTINUOUS to SLEEP. -/
def continuous : State := { up with monitor := ⟨.continuous, .ready, some 1, none⟩ }

/-- A level line that stands ACTIVE and has just become armed. -/
def heldLine : State := { withLine (lineRecord .levelHigh 5 1) .high with quals := up.quals.set 0 ⟨.active, none, 0, none⟩ }

theorem test_meets_TheEndOfAnEvent : (finish up up).monitor.mode = up.monitor.mode
    ∧ continuous.monitor.mode = .continuous ∧ (finish continuous continuous).monitor.mode = .sleep
    ∧ (finish up { upIn .working with monitor := ⟨.sleep, .ready, none, none⟩ }).monitor = ⟨.continuous, .ready, some 1, none⟩
    ∧ (finish up { upIn .working with monitor := ⟨.sleep, .stabilizing 0, none, none⟩ }).monitor.nextRound = some 0
    ∧ (finish up { upIn .working with monitor := ⟨.sleep, .unpowered, none, some 1⟩ }).monitor.nextRound = some 2
    ∧ (heldLine.qual 0).state = .active ∧ (heldLine.cfg.line 0).mode = .levelHigh
    ∧ armed heldLine.env heldLine.board (lineId 0) = true ∧ armed up.env up.board (lineId 0) = false
    ∧ (∀ l, (up.qual l).state ≠ .active) := by
  decide +kernel

theorem test_meets_RequestFramesReadBack : Instr.wf (.nodePut (List.replicate 32 255)) = true
    ∧ requestFrame (.nodePut (List.replicate 32 255)) = some (0x11 :: 32 :: List.replicate 32 255) := by decide +kernel

theorem test_meets_UntakenWritesChangeNothing : requestFrame .status = some [1, 0] ∧ State.reset.isUp = false
    ∧ (after .last up).isUp = true ∧ (after .last up).link.reply.isSome = true ∧ up.isReady
    ∧ 32 < (33 : Byte).toNat ∧ 32 < (255 : Byte).toNat ∧ 32 < (List.replicate 33 (0 : Byte)).length
    ∧ Instr.wf .status = true := by
  refine ⟨?_, ?_, ?_, ?_, ready_up, ?_, ?_, ?_, ?_⟩ <;> decide +kernel

theorem test_meets_FaultyFramesAreAnswered : up.isReady ∧ (32 : Byte).toNat ≤ 32
    ∧ (List.replicate 31 (0 : Byte)).length < (32 : Byte).toNat ∧ (1 : Byte).toNat > ([] : List Byte).length
    ∧ (0 : Byte).toNat ≤ ([] : List Byte).length ∧ requestLen 0x08 = none
    ∧ requestLen 0x01 = some (.exactly 0) ∧ (1 : Byte).toNat ≤ ([0] : List Byte).length ∧ (1 : Byte).toNat ≠ 0
    ∧ requestLen 0x19 = some (.exactly 9) ∧ (32 : Byte).toNat ≠ 9 := by
  refine ⟨ready_up, ?_⟩; decide

/-- A part with two notices waiting. -/
def waiting : State := { up with board := { up.board with
  notices := [⟨.held 0 .on, 1, false⟩, ⟨.button 65535 .idle none, 255, true⟩] } }

theorem test_meets_ReadTransactions : up.isUp = true ∧ State.reset.isUp = false ∧ (after .last up).link.reply = some [0x87, 1, 0x11]
    ∧ up.link.reply = none ∧ up.board.notices = []
    ∧ (waiting.board.notices = ⟨.held 0 .on, 1, false⟩ :: [⟨.button 65535 .idle none, 255, true⟩]
      ∧ ∀ y ∈ [(⟨.button 65535 .idle none, 255, true⟩ : NoticeEntry)], y.notice.kind ≠ .held)
    ∧ (after (.readTransaction .first) waiting).link.read = some ⟨.notice .held, [0x45, 3, 1, 0, 0]⟩
    ∧ 4 < ([0x45, 3, 1, 0, 0] : List Byte).length ∧ ([0x45, 3, 1, 0, 0] : List Byte).length ≤ 5
    ∧ ((after (.readTransaction .first) (after .last up)).link.read.map OpenRead.source = some .reply)
    ∧ ((after (.readTransaction .first) up).link.read.map OpenRead.source = some .empty) := by decide +kernel

theorem test_meets_PostingMergesByKind :
    (∀ x ∈ waiting.board.notices, x.notice.kind ≠ (Notice.store .load .ok).kind)
    ∧ waiting.board.notices = [⟨.held 0 .on, 1, false⟩] ++ ⟨.button 65535 .idle none, 255, true⟩ :: []
    ∧ (Notice.button 65535 .idle none).kind = (Notice.button 40 .idle none).kind
    ∧ ∀ y ∈ [(⟨.held 0 .on, 1, false⟩ : NoticeEntry)] ++ [], y.notice.kind ≠ (Notice.button 40 .idle none).kind := by
  decide

/-- Meets StatusTellsTheState, SettingsAreReadAndReplaced, WakeIsALinkArrival and EnterChecksInOrderThenStarts. -/
theorem test_meets_readyAlone : up.isReady := ready_up

theorem test_meets_LastTellsTheLastRecord : up.isReady ∧ up.board.last = none
    ∧ ({ up with board := { up.board with last := some (rec .drop .doze .off) } } : State).isReady :=
  ⟨ready_up, rfl, rfl, rfl⟩

theorem test_meets_SlotReadsTellTheSlot : 20 ≤ (20 : Byte).toNat ∧ (0 : Byte).toNat = (0 : Slot).val
    ∧ (19 : Byte).toNat = (19 : Slot).val ∧ (∀ r ∈ up.cfg.node 19, r.body.isAnalog = false)
    ∧ (State.with up 19 analogRail .reset).cfg.node 19 = some analogRail ∧ analogRail.body.isAnalog = true
    ∧ up.store.unconfigured = false
    ∧ ({ State.with up 19 analogRail .reset with store := ⟨.noMarker, none, true⟩ } : State).store.unconfigured = true := by
  decide +kernel

theorem test_meets_SourceGetTellsTheSource : 10 ≤ (10 : Byte).toNat ∧ (0 : Byte).toNat = (0 : SourceId).val
    ∧ (9 : Byte).toNat = (9 : SourceId).val ∧ lineId 0 = 0 ∧ lineId 7 = 7 := by decide

/-- A watchdog that is armed. -/
def watched : State :=
  { upIn .working with board := { (upIn .working).board with watchdog := .armed 1000 0 false .up .completed } }

theorem test_meets_CheckinDisarmsTheWatchdog : up.isReady ∧ up.board.watchdog = .disarmed ∧ watched.isReady
    ∧ watched.board.watchdog ≠ .disarmed := by
  refine ⟨ready_up, rfl, ⟨rfl, rfl⟩, ?_⟩; decide +kernel

/-- A running part in LOWERING with an action held. -/
def holding : State :=
  let s := State.with (inPhase .lowering .down .working .off) 0 signalNode { nodeIn (.pending true) none with member := some false }
  { s with board := { s.board with stepHold := true, held := true, issue := [⟨0, .off⟩] } }

theorem test_meets_HoldAndProceed : up.isReady ∧ 1 < (2 : Byte).toNat ∧ up.board.held = false
    ∧ holding.isReady ∧ holding.board.held = true ∧ holding.board.issue = ⟨0, .off⟩ :: [] := by
  refine ⟨ready_up, ?_, rfl, ⟨rfl, rfl⟩, rfl, rfl⟩; decide

/-- Meets IssuedActionsMoveTheirNodes for each kind and direction. -/
theorem test_meets_IssuedActionsMoveTheirNodes :
    ((State.with up 0 analogRail (nodeIn (.pending false) none)).cfg.node 0 = some analogRail
      ∧ (State.with up 0 analogRail (nodeIn (.pending false) none)).board.stateOf 0 = .pending false)
    ∧ ((State.with up 19 signalNode (nodeIn (.pending true) none)).cfg.node 19 = some signalNode
      ∧ (State.with up 19 signalNode (nodeIn (.pending true) none)).board.stateOf 19 = .pending true)
    ∧ ((State.with up 1 handshakeNode (nodeIn (.pending false) none)).cfg.node 1 = some handshakeNode
      ∧ (State.with up 1 handshakeNode (nodeIn (.pending false) none)).board.stateOf 1 ≠ .ramping) := by decide +kernel

/-- A part in OFF with a faulted SIGNAL in slot 19. -/
def faultedNode : State := State.with up 19 signalNode (nodeIn (.faulted .blocked) none)

theorem linesAgree_of {cfg : WorkingConfig} {b : Board}
    (h : ∀ i, ∀ r ∈ cfg.node i, b.outs.get r.output = .driven (r.outLevel (b.stateOf i).level))
    (k : ∀ o, (∀ i, ∀ r ∈ cfg.node i, r.output ≠ o) → b.outs.get o = .released) : linesAgree cfg b := ⟨h, k⟩

theorem test_meets_ClearFaultReturnsANodeToOff : faultedNode.isReady ∧ 20 ≤ (20 : Byte).toNat
    ∧ (19 : Byte).toNat = (19 : Slot).val ∧ (inPhase .raising .up .off .working).board.phase.inTransition = true
    ∧ (faultedNode.board.phase.inTransition = false ∧ (faultedNode.board.stateOf 0).isFaulted = false)
    ∧ (faultedNode.board.stateOf 19).isFaulted = true ∧ linesAgree faultedNode.cfg faultedNode.board := by
  refine ⟨⟨rfl, rfl⟩, ?_, ?_, ?_, ?_, ?_, linesAgree_of ?_ ?_⟩ <;> decide +kernel

theorem test_meets_SaveTakesAndWritesTheConfiguration : up.isReady
    ∧ (inPhase .draining .down .working .off).board.phase ≠ .idle ∧ up.board.phase = .idle ∧ up.store.saving = none
    ∧ ({ up with store := ⟨.torn, some ⟨0, up.cfg⟩, false⟩ } : State).store.saving.isSome = true := by
  refine ⟨ready_up, ?_⟩; decide +kernel

theorem test_meets_StartPlansTheTransition : (State.with up 19 analogRail .reset).cfg.node 19 = some analogRail := by
  decide +kernel

/-- A PENDING on member of a transition. -/
def raising : State := State.with (inPhase .raising .up .off .working) 4 signalNode
  { nodeIn (.pending false) none with member := some true, target := true }

/-- A part in LOWERING whose member in slot 4 waits on a node that has just become FAULTED. -/
def blockedMember : State :=
  let s := State.with (inPhase .lowering .up .off .working) 4 { signalNode with prereqs := [5] }
    { nodeIn (.pending false) none with member := some true, target := true }
  let t := State.with s 5 handshakeNode { nodeIn (.faulted .handshake) none with member := some true }
  { t with board := { t.board with blockTest := true } }

theorem test_blocksInLowering : toBlock blockedMember.cfg blockedMember.board = [4]
    ∧ (engineStep blockedMember.env blockedMember.board).map (fun b => b.stateOf 4) = some (.faulted .blocked) := by
  decide +kernel

/-- DOZE with a released HANDSHAKE still going down; its required level is off in every state. -/
def falling : State := State.with (upIn .doze) 4 { handshakeNode with levels := ⟨false, false, false, false⟩ }
  { nodeIn .stopping (some ⟨.discharge, 30⟩) with forced := true }

/-- A DROP with nothing to change completes at the event of its start, the node falling on (R21, entry 33). -/
theorem test_emptyChangeCompletesAtOnce :
    let t := after (.enter 3 0) falling
    t.board.phase = .idle ∧ t.board.platform = .off ∧ t.board.stateOf 4 = .stopping ∧ t.board.emptyChange = false
      ∧ t.board.last.map (fun r => (r.outcome, r.duration)) = some (some .completed, 0) := by decide +kernel

/-- Slot 2, listed after slot 7 at one event, stands ahead of it, and behind it where 7 was listed earlier (R14). -/
theorem test_listingInSlotOrder :
    (enlist { up.board with issue := [⟨7, .on⟩], listedNow := [3, 7] } .on [2]).issue = [⟨2, .on⟩, ⟨7, .on⟩]
    ∧ (enlist { up.board with issue := [⟨7, .on⟩] } .on [2]).issue = [⟨7, .on⟩, ⟨2, .on⟩] := by decide

/-- HIBERNATE with an ENTER for OFF waiting: the state an arrival of BUTTON leaves, before the claim. -/
def arrived : State :=
  let s := upIn .hibernate
  { s with pending := [.enter 3 0], board := arrive s.env s.board 8 }

/-- That ENTER would be accepted, so it may come before the claim: the entry then stays on the list while the DROP
starts (R7, R120). With no command waiting the claim is taken at once. -/
theorem test_enterMayComeFirst : arrived.acceptsEnter arrived.pending.head? = true ∧ arrived.board.wakes = [8]
    ∧ (start arrived.env arrived.board .drop .off .request none none).wakes = [8]
    ∧ (finish up { arrived with pending := [] }).board.wakes = []
    ∧ (finish up { arrived with pending := [] }).board.platform = .working := by decide +kernel

theorem test_meets_MembersMoveInDependencyOrder : falling.board.emptyChange = false
    ∧ (start falling.env falling.board .drop .off .request none none).emptyChange = true
    ∧ holding.board.phase = .lowering ∧ raising.board.phase = .raising
    ∧ blockedMember.board.phase = .lowering ∧ raising.board.issue = [] ∧ holding.board.issue = ⟨0, .off⟩ :: [] := by
  decide +kernel

/-- A part in REVERSING with one entry on the stack and its node in a state. -/
def reversing (act : ActKind) (st : NodeState) : State :=
  let s := State.with (inPhase .reversing .down .working .off) 4 signalNode (nodeIn st none)
  { s with board := { s.board with stack := [⟨4, act⟩] } }

/-- The same where the node's prerequisite is OFF. -/
def reversingBlocked : State :=
  let s := State.with (reversing .off .off) 4 { signalNode with prereqs := [5] } (nodeIn .off none)
  State.with s 5 handshakeNode (nodeIn .off none)

/-- The nodes of a board are at rest. -/
abbrev atRest (b : Board) : Prop := ∀ i, b.stateOf i = .off ∨ b.stateOf i = .good ∨ (b.stateOf i).isFaulted = true

theorem test_meets_UndoOneEntryAtATime :
    (((inPhase .reversing .down .working .off).board.phase = .reversing
      ∧ (inPhase .reversing .down .working .off).board.issue = []
      ∧ (inPhase .reversing .down .working .off).board.queue up.cfg = []
      ∧ (inPhase .reversing .down .working .off).board.stack = [] ∧ atRest (inPhase .reversing .down .working .off).board))
    ∧ (¬ atRest (reversing .on .stopping).board ∧ (reversing .on .stopping).board.queue up.cfg = [])
    ∧ (({ (reversing .on .off).board with issue := [⟨4, .undoOff⟩] } : Board).issue.any
        (fun a => ((reversing .on .off).board.stateOf a.slot).isDown) = true)
    ∧ ((reversing .undoOn .settling).board.stateOf 4).atRest = false ∧ (reversing .undoOn .settling).board.issue = []
    ∧ ((reversing .undoOn .good).board.stack = ⟨4, .undoOn⟩ :: [] ∧ ((reversing .undoOn .good).board.stateOf 4).atRest = true)
    ∧ (atRest (reversing .off (.faulted .ramp)).board ∧ ((reversing .off (.faulted .ramp)).board.stateOf 4).isFaulted = true)
    ∧ (atRest (reversing .on .off).board ∧ (reversing .on .off).board.stateOf 4 = .off)
    ∧ (atRest (reversing .off .good).board ∧ (reversing .off .good).board.stateOf 4 = .good)
    ∧ (∀ d ∈ (reversing .on .good).cfg.dependents 4, ((reversing .on .good).board.stateOf d).isDown = true)
    ∧ (∀ p ∈ (reversing .off .off).cfg.prereqs 4, ((reversing .off .off).board.stateOf p).isGood = true)
    ∧ (atRest reversingBlocked.board ∧ reversingBlocked.board.stateOf 4 = .off
      ∧ ∃ p ∈ reversingBlocked.cfg.prereqs 4, (reversingBlocked.board.stateOf p).isGood = false) := by decide +kernel

theorem test_meets_TransitionEnds : (inPhase .raising .up .off .working).board.record = some (rec .up .off .working)
    ∧ (inPhase .reversing .down .working .off).board.record = some (rec .down .working .off) := by decide

theorem test_meets_ClaimsAreTakenInOrder : up.board.phase = .idle ∧ pickWake up.cfg [3, 8, 9] = some 8
    ∧ pickWake up.cfg [] = none := by
  decide +kernel

/-- An on member in REVERSING's first event that a cascade released with ending BLOCKED. -/
def stillFalling (stack : List Action) : State :=
  let s := State.with (inPhase .lowering .up .off .working) 4 signalNode
    { nodeIn .stopping (some ⟨.discharge, 30⟩) with member := some true, forced := true, ending := .blocked, target := true }
  { s with board := { s.board with stack := stack } }

/-- Released before the transition it stays OFF at rest (R132, step 5); released in it, it keeps its ending (R135). -/
theorem test_stillFallingStaysOff :
    ((beginReversing (stillFalling []).env (stillFalling []).board).node 4).ending = .off
    ∧ ((beginReversing (stillFalling [⟨4, .on⟩]).env (stillFalling [⟨4, .on⟩]).board).node 4).ending = .blocked := by
  decide +kernel

theorem test_meets_ReversingBegins :
    ((State.with (inPhase .raising .up .off .working) 0 analogRail (nodeIn .discharging none)).board.node 0).state = .discharging
    ∧ ((State.with (inPhase .lowering .down .working .off) 0 signalNode (nodeIn .stopping none)).board.node 0).state
      = .stopping := by decide +kernel

/-- A running part in OFF under a lockout. -/
def locked (l : Lockout) : State := { up with board := { up.board with lockout := l } }

theorem test_meets_ArmingFollowsTheSituation : (up.board.lockout = .none ∧ armed up.env up.board 0 = false)
    ∧ ((locked .resume).board.lockout ≠ .none ∧ (7 : SourceId) ≠ 8 ∧ (9 : SourceId) ≠ 8) := by decide +kernel

/-- BUTTON meets a downward transition that may be reversed. -/
def descending : State :=
  let s := inPhase .raising .down .working .off
  { s with board := { s.board with reversible := true } }

theorem test_meets_ArrivalsHaveOneFate :
    (descending.board.lockout = .none ∧ armed descending.env descending.board 8 = true
      ∧ descending.board.record = some (rec .down .working .off) ∧ descending.board.phase = .raising
      ∧ descending.board.reversible = true ∧ descending.cfg.wakePolicy 8 = .reverse)
    ∧ (armed up.env up.board 8 = true ∧ up.board.record = none)
    ∧ ((locked .thermal).board.lockout = .thermal ∧ { up.env with hotshutActive := true }.hotshutActive = true)
    ∧ ((locked .resume).board.lockout = .resume ∧ up.env.unconfigured = false ∧ (locked .resume).board.phase = .idle
      ∧ (locked .resume).board.platform = .off)
    ∧ ((inPhase .draining .relevel .off .off).board.phase = .draining
      ∧ (inPhase .raising .relevel .off .off).board.record = some (rec .relevel .off .off))
    ∧ { up.env with unconfigured := true }.unconfigured = true := by decide +kernel

/-- A GOOD node in slot 5 and one in slot 4 that lists it. -/
def pair : State :=
  State.with (State.with (upIn .working) 5 handshakeNode (nodeIn .good none)) 4 { signalNode with prereqs := [5] }
    (nodeIn .good none)

theorem test_meets_FaultConsequences : pair.cfg.node 4 = some { signalNode with prereqs := [5] }
    ∧ releasedSet pair.cfg pair.board 5 = [4] ∧ pair.board.stateOf 4 = .good
    ∧ (takeFault pair.env pair.board 5 .dropout true).stateOf 4 = .stopping := by decide +kernel

theorem test_meets_EmergencyOffTakesEverythingDown :
    (State.with (upIn .working) 19 analogRail (nodeIn .good none)).cfg.node 19 = some analogRail := by decide +kernel

theorem test_meets_EmergencyOffEnds : (inPhase .draining .down .working .off).board.record = some (rec .down .working .off)
    ∧ (inPhase .draining .down .working .off).board.phase = .draining := by decide

theorem test_meets_LevelLinesQualify : State.reset.isUp = false ∧ (withLine (lineRecord .levelHigh 255 1) .low).isUp = true
    ∧ ((withLine (lineRecord .levelHigh 255 1) .low).cfg.line 0).mode = .levelHigh
    ∧ ((withLine (lineRecord .levelLow 0 1) .low).cfg.line 0).mode = .levelLow
    ∧ (withLine (lineRecord .levelHigh 255 1) .low).pins.wk.get 0 = .low
    ∧ (withLine (lineRecord .levelHigh 255 1) .low).pins.wk.get 0 ≠ .high
    ∧ ({ withLine (lineRecord .levelHigh 255 1) .high with
        quals := up.quals.set 0 ⟨.debouncing, some 0, 0, none⟩ } : State).qual 0 = ⟨.debouncing, some 0, 0, none⟩ := by
  decide +kernel

theorem test_meets_EdgeLinesCount : ((withLine (lineRecord .rising 0 1) .low).cfg.line 0).mode = .rising
    ∧ ((withLine (lineRecord .falling 255 15) .low).cfg.line 0).mode = .falling
    ∧ (withLine (lineRecord .rising 0 1) .low).pins.wk.get 0 ≠ .high
    ∧ (withLine (lineRecord .rising 0 1) .low).pins.wk.get 0 = .low
    ∧ ({ withLine (lineRecord .rising 255 15) .high with
        quals := up.quals.set 0 ⟨.debouncing, some 0, 14, some 0⟩ } : State).qual 0 = ⟨.debouncing, some 0, 14, some 0⟩ := by
  decide +kernel

theorem test_meets_SourcePutReplacesTheRecord : up.isReady
    ∧ ((inPhase .raising .up .off .working).board.phase.inTransition
      || (inPhase .raising .up .off .working).store.saving.isSome) = true
    ∧ (up.board.phase.inTransition || up.store.saving.isSome) = false
    ∧ 9 < (10 : Byte).toNat ∧ 1 < (2 : Byte).toNat ∧ 7 < (8 : Byte).toNat ∧ 3 < (4 : Byte).toNat
    ∧ (1 : Byte).toNat ≤ 1 ∧ (7 : Byte).toNat ≤ 7 ∧ (3 : Byte).toNat ≤ 3
    ∧ (7 : Byte).toNat = (7 : WakeLine).val := by
  refine ⟨ready_up, ?_⟩; decide +kernel

theorem test_meets_NodePutChecksInOrder : up.isReady ∧ (List.replicate 32 (0 : Byte)).length ≤ 32
    ∧ parseRecord [2, 2, 0, 15, 0, 3, 15, 3, 19, 0xFF, 0xFF, 0xFF, 0, 0, 20, 0, 0, 0, 30, 0, 0, 0]
      = some (some { signalNode with
        output := 15, polarity := .high, levels := ⟨true, true, true, true⟩, prereqs := [19], severity := .critical
        irreversible := true }) :=
  ⟨ready_up, by decide, by decide +kernel⟩

/-- A table with no record has no cycle. -/
theorem test_meets_CycleCheckIsExact : WorkingConfig.acyclic .default := by
  intro i h
  have key : ∀ i p, ¬ WorkingConfig.lists .default i p := by
    intro i p hp
    have none_listed : ∀ i, WorkingConfig.default.prereqs i = [] := by decide +kernel
    simp [WorkingConfig.lists, none_listed i] at hp
  cases h with
  | single h => exact key _ _ h
  | tail _ h => exact key _ _ h

theorem test_meets_NodePutEffects :
    (faultedNode.cfg.node 19).bind (fun r => r.body.channel) ≠ (some analogRail).bind (fun r => r.body.channel)
    ∧ (faultedNode.cfg.node 19).bind (fun r => r.body.channel) = (none : Option NodeRecord).bind (fun r => r.body.channel)
    ∧ (ramping.board.node 1).state = .ramping ∧ (some signalNode ≠ none ∧ (up.board.node 0).state.isFaulted = false) := by
  decide +kernel

/-- A channel whose full scale lies at the nominal voltage. -/
def topWindow : Window := ⟨4995, 4883, 1, 1, 0, 0⟩

theorem test_meets_ThresholdsAndClasses : topWindow.inRange ∧ Window.inRange ⟨65535, 65535, 250, 250, 500, 500⟩
    ∧ Window.inRange ⟨1, 1, 1, 1, 0, 0⟩ ∧ fullScale topWindow.scale ≤ topWindow.goodHigh
    ∧ fullScale topWindow.scale ≤ topWindow.holdHigh ∧ topWindow.discharged = 0 ∧ (0 : Nat) ≤ 1023
    ∧ ({ Node.reset with badCount := 14 } : Node).badCount < 15 ∧ 15 ≤ ({ Node.reset with badCount := 15 } : Node).badCount := by
  unfold Window.inRange; decide

theorem test_meets_SamplesCountAndProve : (NodeState.faulted .ramp).isFaulted = true ∧ NodeState.off ≠ .ramping
    ∧ NodeState.off ≠ .stopping := by decide

theorem test_meets_SamplesAreHeldAndTaken : classify ⟨3300, 4883, 50, 50, 33, 100⟩ (ramping.board.stateOf 1) 676 = some .inBand
    ∧ classify ⟨3300, 4883, 50, 50, 33, 100⟩ (ramping.board.stateOf 1) 1023 = some .overBand
    ∧ classify ⟨3300, 4883, 50, 50, 33, 100⟩ (ramping.board.stateOf 1) 0 = some .underBand
    ∧ classify ⟨3300, 4883, 50, 50, 33, 100⟩ (ramping.board.stateOf 0) 0 = none
    ∧ ramping.cfg.node 1 = some analogRail := by decide +kernel

/-- A rail by power-good input 4, GOOD in DOZE. -/
def digitalRail : NodeRecord := { analogRail with body := .rail (.digital 4 .high 1 15) 0 0 3 }

theorem test_meets_RoundsRunAndAreSet :
    (ramping.monitor.mode = .continuous ∧ ramping.monitor.nextRound = some 0 ∧ 0 ≤ ramping.now)
    ∧ (({ up with monitor := ⟨.sleep, .unpowered, some 0, none⟩ } : State).monitor.converter = .unpowered)
    ∧ (({ up with monitor := ⟨.sleep, .stabilizing 0, none, none⟩ } : State).monitor.converter = .stabilizing 0)
    ∧ (up.monitor.mode = .sleep ∧ up.monitor.converter = .unpowered ∧ up.monitor.nextRound = none)
    ∧ (∀ i, ∀ r ∈ ramping.cfg.node i, r.body.channel ≠ some 3) ∧ (∀ i, ∀ r ∈ ramping.cfg.node i, r.body.input ≠ some 0)
    ∧ (ramping.cfg.node 1 = some analogRail ∧ (∀ j, ∀ q ∈ ramping.cfg.node j, q.body.channel = some 2 → j = 1)
      ∧ analogRail.body.channel = some 2 ∧ ramping.board.stateOf 1 ≠ .good)
    ∧ ((State.with up 1 digitalRail (nodeIn .good none)).cfg.node 1 = some digitalRail
      ∧ (∀ j, ∀ q ∈ (State.with up 1 digitalRail (nodeIn .good none)).cfg.node j, q.body.input = some 4 → j = 1)
      ∧ digitalRail.body.input = some 4 ∧ (State.with up 1 digitalRail (nodeIn .good none)).board.stateOf 1 = .good
      ∧ digitalRail.body.isRail = true) := by decide +kernel

theorem test_meets_DeadlinesEndTheirStates :
    (ramping.board.node 1).deadline = some ⟨.ramp, 20⟩ ∧ ramping.cfg.node 1 = some analogRail
    ∧ (nodeIn .settling (some ⟨.settle, 0⟩)).deadline = some ⟨.settle, 0⟩
    ∧ (nodeIn .stopping (some ⟨.discharge, 0⟩)).deadline = some ⟨.discharge, 0⟩ ∧ (0 : Nat) ≤ up.now
    ∧ ¬ (20 ≤ ramping.now) := by decide +kernel

theorem test_meets_RampFailuresAreRetried : ramping.cfg.node 1 = some analogRail ∧ analogRail.body.isRail = true := by
  decide +kernel

/-- Two rails wait, of weight 40 and 255, with a budget. -/
def queued (ph : Phase) (budget : Nat) : State :=
  let s := State.with (inPhase ph .up .off .working) 0 analogRail (nodeIn .queued none)
  let t := State.with s 19 { analogRail with output := 4, body := .rail .timed 0 255 0 } (nodeIn .queued none)
  { t with cfg := { t.cfg with settings := { t.cfg.settings with budget := budget } } }

theorem test_meets_QueueOrderAndGrants : up.board.queue up.cfg = [] ∧ up.cfg.settings.mode = .fixed
    ∧ (queued .raising 255).board.queue (queued .raising 255).cfg = [19, 0]
    ∧ (0 + 255 ≤ (queued .raising 255).cfg.settings.budget ∧ (queued .raising 255).board.rampingRails (queued .raising 255).cfg = [])
    ∧ (queued .reversing 1).board.rampingRails (queued .reversing 1).cfg = []
    ∧ ¬ (({ queued .raising 255 with board := { (queued .raising 255).board with inUse := 1 } } : State).board.inUse + 255
        ≤ (queued .raising 255).cfg.settings.budget) := by decide +kernel

theorem test_meets_ButtonQualifierTable : State.reset.isUp = false ∧ up.isUp = true ∧ up.pins.pwrbtn ≠ .low
    ∧ ({ up.panel with button := .waitRelease, debounce := some 0 } : Panel).debounce = some 0
    ∧ (∀ t ∈ ({ up.panel with debounce := some 1 } : Panel).debounce, up.now < t) := by decide +kernel

theorem test_meets_PressesAreTaken : (0 : Nat) ≤ up.now
    ∧ ({ up.panel with button := .pressDebounce, debounce := some 0 } : Panel).button = .pressDebounce
    ∧ ({ up.panel with button := .releaseDebounce, press := some ⟨4, true, .idle, none, 0, false⟩ } : Panel).press
      = some ⟨4, true, .idle, none, 0, false⟩
    ∧ ({ up.panel with holdTimer := some 0 } : Panel).holdTimer = some 0
    ∧ ∀ t ∈ ({ up.panel with holdTimer := some 1 } : Panel).holdTimer, up.now < t := by decide +kernel

theorem test_meets_IndicatorPatterns : (Pattern.segments .code4).length = 8 ∧ (⟨7, 0⟩ : Segment).index < 8
    ∧ (⟨7, 0⟩ : Segment).expiry ≤ up.now
    ∧ (⟨.released, none, none, none, .code4, some ⟨7, 0⟩, none⟩ : Panel).next = none
    ∧ (⟨.released, none, none, none, .slow, some ⟨1, 0⟩, some .fast⟩ : Panel).next = some .fast
    ∧ (∀ g ∈ up.panel.segment, up.now < g.expiry) := by decide +kernel

theorem test_meets_SupplyInputsAreFilteredAndTaken : State.reset.isUp = false ∧ up.isUp = true ∧ up.pins.acok ≠ .low ∧ up.pins.hotshut ≠ .low
    ∧ (∀ t ∈ ({ up.inputs with acokFilter := some 1 } : Inputs).acokFilter, up.now < t)
    ∧ (∀ t ∈ up.inputs.hotshutFilter, up.now < t)
    ∧ ({ up.inputs with acokFilter := some 0 } : Inputs).acokFilter = some 0
    ∧ ({ up.inputs with hotshutFilter := some 0 } : Inputs).hotshutFilter = some 0 ∧ (0 : Nat) ≤ up.now
    ∧ ({ up.pins with acok := .low } : Pins).acok = .low ∧ up.pins.acok = .high ∧ up.pins.hotshut = .high
    ∧ ({ up.pins with hotshut := .low } : Pins).hotshut = .low := by decide +kernel

theorem test_meets_LongTimersExpire : ({ up.board with dwell := .running 1 60000 } : Board).dwell = .running 1 60000
    ∧ up.board.dwell = .none ∧ watched.board.watchdog = .armed 1000 0 false .up .completed
    ∧ up.board.watchdog = .disarmed ∧ 0 + 1000 * 3 / 4 ≤ 750 ∧ ¬ (0 + 1000 * 3 / 4 ≤ 749) := by decide +kernel

/-- An empty table binds nothing twice. -/
theorem bindingsUnique_default : bindingsUnique .default := by
  have none_held : ∀ i r, WorkingConfig.default.node i ≠ some r := by
    have h : ∀ i, WorkingConfig.default.node i = none := by decide +kernel
    intro i r hi; rw [h i] at hi; cases hi
  exact ⟨fun i _ r _ hi => absurd hi (none_held i r), fun i _ r _ _ hi => absurd hi (none_held i r),
    fun i _ r _ _ hi => absurd hi (none_held i r)⟩

theorem test_meets_LoadEventStartsThePart : up.startup = .running ∧ State.reset.startup = .awaitLoad 0
    ∧ 0 ≤ State.reset.now ∧ ({ State.reset with startup := .awaitLoad 1 } : State).now < 1
    ∧ outputsUnique (loadedConfig State.reset.store.image) :=
  ⟨rfl, rfl, by decide, by decide, bindingsUnique_default.1⟩

theorem test_meets_SavedImagesLoadBack : WorkingConfig.default.inRange := by
  refine ⟨?_, ?_, by decide, by decide, ?_⟩
  · intro i r h
    have hn : ∀ i, WorkingConfig.default.node i = none := by decide +kernel
    rw [hn i] at h; cases h
  · unfold LineRecord.inRange; decide +kernel
  · unfold Settings.inRange; decide

theorem test_meets_LinkLawsAreKept : LinkInv (after .last up) ∧ LinkInv (State.attn waiting)
    ∧ step (State.attn waiting) = .next (idle (State.attn waiting)) := by
  refine ⟨?_, ?_, rfl⟩ <;> (unfold LinkInv; decide +kernel)

theorem test_meets_ListLawsAreKept : WakeInv up ∧ StackInv up ∧ StackInv holding := by
  unfold WakeInv StackInv; decide +kernel

theorem test_meets_EngineLawsAreKept : EngineInv up := by
  refine ⟨rfl, ?_, ?_, rfl, trivial, ?_, ?_, ?_, ?_, ?_⟩
  · unfold EmergencyInv; decide +kernel
  · exact ⟨fun h => absurd h (by decide +kernel), fun m h => by cases h⟩
  · intro h; exact absurd rfl h
  · exact ⟨fun h => absurd rfl h, fun m t h => by cases h⟩
  · intro d a w k o h; cases h
  · intro h; cases h
  · intro h; cases h

theorem test_meets_SwitchLawsAreKept : SwitchInv ramping := by
  unfold SwitchInv NodeInv; decide +kernel

theorem test_meets_LinesAgreeWithNodeStates : OutputsInv up := by
  refine ⟨linesAgree_of ?_ ?_, bindingsUnique_default, ?_, bindingsUnique_default⟩
  · decide +kernel
  · decide +kernel
  · intro job h; cases h

/-- A RAIL in RAMPING on its own, charged with its weight. -/
def charged : State :=
  let s := State.with (inPhase .raising .up .off .working) 1 analogRail
    { nodeIn .ramping (some ⟨.ramp, 20⟩) with member := some true, target := true, charge := 40 }
  { s with board := { s.board with inUse := 40, stack := [⟨1, .on⟩] } }

theorem orderInv_charged : OrderInv charged := by
  have hp : ∀ i, charged.cfg.prereqs i = [] := by decide +kernel
  refine ⟨?_, ?_, ?_, ?_, ?_, ?_, ?_, ?_⟩
  · intro i _ p h; rw [hp] at h; cases h
  · intro i _ p h; rw [hp] at h; cases h
  · decide +kernel
  · unfold Node.isUnplanned; decide +kernel
  · decide +kernel
  · intro h; cases h
  · decide +kernel
  · intro a h; cases h

theorem test_meets_PrerequisitesStayGood : SwitchInv charged ∧ OrderInv charged :=
  ⟨by unfold SwitchInv NodeInv; decide +kernel, orderInv_charged⟩

theorem test_meets_InrushStaysInBudget : BudgetInv charged :=
  ⟨.inl (by decide +kernel), by decide +kernel⟩

end Sys2Proof.Tests
end

section
/-! SUPPORT. LAST and ENTER, the two requests of the transition engine: what the reply to LAST holds, the checks of
ENTER in their order, and what the start of a transition leaves of a lockout. -/

namespace Sys2Proof.Machine

/-! ### LAST (R25, R199) -/

/-- Table 11-6 from the kind to the duration takes 13 bytes. -/
theorem doneFields_length (r : Record) : (doneFields r).length = 13 := rfl

/-- A refused LAST: there is no last record yet (R25). -/
theorem lastAnswer_of_none {s : State} (h : s.board.last = none) : lastAnswer s = .refuse s .state := by
  simp only [lastAnswer, h]

/-- LAST tells the record it finds, the absorbed sources behind the fields of Table 11-6 (R25, R199). -/
theorem lastAnswer_of_some {s : State} {r : Record} (h : s.board.last = some r) :
    lastAnswer s = .tell s (doneFields r ++ r.absorbed.map (fun id => byte1 id.val)) := by
  simp only [lastAnswer, h]

/-- The reply frame of a record told by LAST: LEN counts the status, the 13 bytes and the absorbed sources. -/
theorem replyFrame_last (r : Record) :
    replyFrame 0x07 .ok (doneFields r ++ r.absorbed.map (fun id => byte1 id.val))
      = [0x87, byte1 (14 + r.absorbed.length), 0x00] ++ doneFields r ++ r.absorbed.map (fun id => byte1 id.val) := by
  have hlen : (byte1 Status.ok.code :: (doneFields r ++ r.absorbed.map (fun id => byte1 id.val))).length
      = 14 + r.absorbed.length := by
    rw [List.length_cons, List.length_append, List.length_map, doneFields_length]; omega
  unfold replyFrame writeFrame
  rw [hlen]
  rfl

/-- Settles O10: the answer of LAST by whether a last record is held, then its frame byte by byte. -/
theorem lastTellsTheLastRecord : Obligations.LastTellsTheLastRecord := by
  unfold Obligations.LastTellsTheLastRecord
  intro s hs
  have hp : ([] : List Byte).length ≤ 32 := Nat.zero_le _
  refine ⟨fun hnone => ?_, fun r hsome => ?_⟩
  · exact congrArg Host.Outcome.next (request_refused hs 0x07 [] hp _ .state (lastAnswer_of_none hnone))
  · have told := request_told hs 0x07 [] hp _ _ (lastAnswer_of_some hsome)
    rw [replyFrame_last r] at told
    exact congrArg Host.Outcome.next told

/-! ### The target and the kind of an ENTER (R5, R6) -/

/-- The platform states are the codes 0 to 3 (Table 11-8). -/
theorem platformOf_eq (b : Byte) :
    platformOf b = if b = 0 then some .working else if b = 1 then some .doze
      else if b = 2 then some .hibernate else if b = 3 then some .off else none := by
  simp only [platformOf, ← BitVec.toNat_inj]
  split <;> simp_all

/-- A target ranks above the platform state exactly when it is WORKING from below it, or a higher sleeping state. -/
theorem rank_lt_iff (p q : Platform) : p.rank < q.rank ↔ (p = .working ∧ q ≠ .working)
    ∨ (p = .doze ∧ (q = .hibernate ∨ q = .off)) ∨ (p = .hibernate ∧ q = .off) := by
  cases p <;> cases q <;> decide

/-- Only DOZE from WORKING is a DOZE_IN. -/
theorem enterKind_eq_dozeIn (q p : Platform) : enterKind q p = .dozeIn ↔ q = .working ∧ p = .doze := by
  cases q <;> cases p <;> decide

/-- The kinds of R6 as a chain: RELEVEL to the present state, DOZE_IN or DOWN from WORKING, DROP from below it. -/
theorem enterKind_eq (q p : Platform) : enterKind q p = if q = p then .relevel
    else if q = .working then if p = .doze then .dozeIn else .down else .drop := by
  cases q <;> rfl

/-- The kept dwell: none for 0, and a dwell above 1440 is cut to it (R6). -/
theorem keptDwell_eq (dwell : Half) : keptDwell dwell
    = if dwell = 0 then none else if 1440 < dwell.toNat then some 1440 else some dwell.toNat := by
  unfold keptDwell
  split_ifs with h0 hcut
  · rfl
  · rw [Nat.min_eq_left hcut.le]
  · rw [Nat.min_eq_right (Nat.not_lt.mp hcut)]

/-! ### The checks of ENTER (R5) -/

/-- Check 1: the engine is in a transition or a SAVE runs. -/
theorem enterCheck_busy {s : State} {target : Byte} {dwell : Half}
    (h : s.board.phase ≠ .idle ∨ s.store.saving.isSome = true) : enterCheck s target dwell = .error .busy := by
  unfold enterCheck
  rw [if_pos (by simpa [State.isSaving] using h)]

/-- Check 2: the target is no platform state. -/
theorem enterCheck_noPlatform {s : State} {target : Byte} {dwell : Half}
    (h : ¬(s.board.phase ≠ .idle ∨ s.store.saving.isSome = true)) (hp : platformOf target = none) :
    enterCheck s target dwell = .error .range := by
  unfold enterCheck
  rw [if_neg (by simpa [State.isSaving] using h), hp]

/-- Checks 3 to 7, of a target that is a platform state. -/
theorem enterCheck_platform {s : State} {target : Byte} {p : Platform} (dwell : Half)
    (h : ¬(s.board.phase ≠ .idle ∨ s.store.saving.isSome = true)) (hp : platformOf target = some p) :
    enterCheck s target dwell =
      if s.store.unconfigured = true then .error .state
      else if s.inputs.acokHigh = false then .error .state
      else if p.rank < s.board.platform.rank then .error .state
      else if dwell ≠ 0 ∧ ¬(s.board.platform = .working ∧ p = .doze) then .error .range
      else .ok p := by
  unfold enterCheck
  rw [if_neg (by simpa [State.isSaving] using h)]
  simp only [hp, ne_eq, enterKind_eq_dozeIn, Bool.not_eq_true']

/-! ### The start of a transition and the lockout (R5, R9) -/

theorem onlySlots_returnFaulted (cfg : WorkingConfig) (b : Board) (i : Slot) : OnlySlots b (returnFaulted cfg b i) := by
  unfold returnFaulted
  split
  · exact onlySlots_enter ..
  · exact OnlySlots.refl b

theorem onlySlots_takePending (cfg : WorkingConfig) (b : Board) (i : Slot) : OnlySlots b (takePending cfg b i) := by
  unfold takePending
  split
  · exact onlySlots_enter ..
  · exact onlySlots_enter ..
  · exact OnlySlots.refl b

theorem OnlySlots.lockout {b t : Board} (h : OnlySlots b t) : t.lockout = b.lockout := by
  unfold OnlySlots at h; rw [h]

/-- The start of a transition leaves the lockout as it is. -/
@[simp] theorem start_lockout (e : Env) (b : Board) (kind : Kind) (target : Platform) (origin : Origin)
    (wake : Option SourceId) (dwell : Option Nat) : (start e b kind target origin wake dwell).lockout = b.lockout := by
  refine (forSlots_onlySlots _ (onlySlots_takePending e.cfg) _).lockout.trans ?_
  by_cases hk : kind.isResume = true
  · simp only [if_pos hk]
    exact (forSlots_onlySlots _ (onlySlots_returnFaulted e.cfg) b).lockout
  · simp only [if_neg hk]

/-- Writing back the lockout that a start has left changes nothing. -/
theorem start_with_lockout (e : Env) (b : Board) (kind : Kind) (target : Platform) (origin : Origin)
    (wake : Option SourceId) (dwell : Option Nat) :
    { start e b kind target origin wake dwell with lockout := b.lockout } = start e b kind target origin wake dwell := by
  rw [← start_lockout e b kind target origin wake dwell]

/-! ### ENTER as a whole (R5, R6) -/

/-- An ENTER that fails a check is answered with the check's status, and nothing else changes. -/
theorem exec_enter_refused {s : State} {target : Byte} {dwell : Half} {st : Status} (hs : s.isReady)
    (h : enterCheck s target dwell = .error st) :
    exec (.enter target dwell) s = .next (s.withReply 5 (refusal 0x02 st.code)) := by
  have ho : enterAnswer target dwell s = .refuse s st := by simp only [enterAnswer, h]
  exact congrArg Host.Outcome.next (request_refused hs 0x02 (target :: bytesOfHalf dwell) (by simp [bytesOfHalf]) _ st ho)

/-- An ENTER that passes every check starts its transition behind its reply. -/
theorem exec_enter_started {s : State} {target : Byte} {dwell : Half} {p : Platform} (hs : s.isReady)
    (h : enterCheck s target dwell = .ok p) :
    exec (.enter target dwell) s = .next (finish s
      ({ s with board := start s.env s.board (enterKind s.board.platform p) p .request none (keptDwell dwell) }.withReply 5
        [0x82, 1, if 1440 < dwell.toNat then 0x02 else 0x01])) := by
  have ho : enterAnswer target dwell s = .starts
      { s with board := start s.env s.board (enterKind s.board.platform p) p .request none (keptDwell dwell) }
      (if 1440 < dwell.toNat then .clamped else .accepted) := by simp only [enterAnswer, h]
  have started := request_started hs 0x02 (target :: bytesOfHalf dwell) (by simp [bytesOfHalf]) _ _ _ ho
  have hcode : byte1 (if 1440 < dwell.toNat then Status.clamped else .accepted).code
      = if 1440 < dwell.toNat then 0x02 else 0x01 := by split <;> rfl
  rw [hcode] at started
  exact congrArg Host.Outcome.next started

/-- Settles O20: one case per check of R5, in their order, and the start of R6 when none fails. -/
theorem enterChecksInOrderThenStarts : Obligations.EnterChecksInOrderThenStarts := by
  unfold Obligations.EnterChecksInOrderThenStarts
  intro s target dwell hs
  rw [← platformOf_eq]
  by_cases hbusy : s.board.phase ≠ .idle ∨ s.store.saving.isSome = true
  · rw [if_pos hbusy]
    exact exec_enter_refused hs (enterCheck_busy hbusy)
  rw [if_neg hbusy]
  cases hp : platformOf target with
  | none => exact exec_enter_refused hs (enterCheck_noPlatform hbusy hp)
  | some p =>
    have hcheck := enterCheck_platform dwell hbusy hp
    have hbelow := rank_lt_iff p s.board.platform
    dsimp only
    by_cases hunconf : s.store.unconfigured = true
    · rw [if_pos hunconf] at hcheck ⊢
      exact exec_enter_refused hs hcheck
    rw [if_neg hunconf] at hcheck ⊢
    by_cases hac : s.inputs.acokHigh = false
    · rw [if_pos hac] at hcheck ⊢
      exact exec_enter_refused hs hcheck
    rw [if_neg hac] at hcheck ⊢
    by_cases hup : p = .working ∧ s.board.platform ≠ .working
    · rw [if_pos (hbelow.mpr (.inl hup))] at hcheck
      rw [if_pos hup]
      exact exec_enter_refused hs hcheck
    rw [if_neg hup]
    by_cases hrank : (p = .doze ∧ (s.board.platform = .hibernate ∨ s.board.platform = .off))
        ∨ (p = .hibernate ∧ s.board.platform = .off)
    · rw [if_pos (hbelow.mpr (.inr hrank))] at hcheck
      rw [if_pos hrank]
      exact exec_enter_refused hs hcheck
    rw [if_neg (hbelow.not.mpr (not_or.mpr ⟨hup, hrank⟩))] at hcheck
    rw [if_neg hrank]
    by_cases hdwell : dwell ≠ 0 ∧ ¬(s.board.platform = .working ∧ p = .doze)
    · rw [if_pos hdwell] at hcheck ⊢
      exact exec_enter_refused hs hcheck
    rw [if_neg hdwell] at hcheck ⊢
    rw [exec_enter_started hs hcheck, ← enterKind_eq, ← keptDwell_eq, start_with_lockout]

end Sys2Proof.Machine
end

section
/-! SUPPORT. The budget law: the arbiter's accounts as an invariant of boards, kept by every operation of the switch,
the fault handler, the engine and the arbiter, then by every command. Only a grant puts a RAIL into RAMPING, and only
after the test of R85; the working table and the settings change only while nothing ramps. -/

namespace Sys2Proof.Machine

/-! ### The arbiter's accounts (R78, R79) -/

/-- The budget law on a board. -/
def Board.fitsBudget (b : Board) (cfg : WorkingConfig) : Prop :=
  ((b.rampingRails cfg).map cfg.weight).sum ≤ cfg.settings.budget ∨ (b.rampingRails cfg).length = 1

/-- The charges of R78: none outside RAMPING, their sum in use, and each rail in RAMPING charged with its weight. -/
structure Accounted (cfg : WorkingConfig) (b : Board) : Prop where
  idle : ∀ i, (b.node i).charge ≠ 0 → b.stateOf i = .ramping
  total : b.inUse = (slots.map (fun i => (b.node i).charge)).sum
  weighed : ∀ i ∈ b.rampingRails cfg, (b.node i).charge = cfg.weight i

/-- The accounts are right and the budget law holds. -/
structure Charged (cfg : WorkingConfig) (b : Board) : Prop extends Accounted cfg b where
  fits : b.fitsBudget cfg

/-- The accounts of a state, and its budget law. -/
def State.charged (s : State) : Prop := Charged s.cfg s.board

/-- Outside a transition nothing ramps. -/
def State.ramplessAtRest (s : State) : Prop :=
  s.board.phase.inTransition = false → ∀ i, s.board.stateOf i ≠ .ramping

/-- Two live halves of a slot that the accounts do not tell apart. -/
def Node.sameAccount (n m : Node) : Prop := m.state = n.state ∧ m.charge = n.charge

theorem mem_rampingRails (cfg : WorkingConfig) (b : Board) (i : Slot) :
    i ∈ b.rampingRails cfg ↔ b.stateOf i = .ramping ∧ ∃ r, cfg.node i = some r ∧ r.body.isRail = true := by
  simp only [Board.rampingRails, List.mem_filter, mem_slots, true_and, Bool.and_eq_true, beq_iff_eq]
  refine and_congr_right fun _ => ?_
  cases cfg.node i <;> simp

/-- The rails in RAMPING of one board stand among those of another in the same order. -/
theorem rampingRails_sublist {cfg : WorkingConfig} {b t : Board}
    (h : ∀ i ∈ t.rampingRails cfg, i ∈ b.rampingRails cfg) : (t.rampingRails cfg).Sublist (b.rampingRails cfg) :=
  List.monotone_filter_right slots fun i hi =>
    (List.mem_filter.mp (h i (List.mem_filter.mpr ⟨mem_slots i, hi⟩))).2

/-- A board with no further rail in RAMPING still fits the budget. -/
theorem fitsBudget_of_subset {cfg : WorkingConfig} {b t : Board} (h : b.fitsBudget cfg)
    (hsub : ∀ i ∈ t.rampingRails cfg, i ∈ b.rampingRails cfg) : t.fitsBudget cfg := by
  have sub := rampingRails_sublist hsub
  rcases h with hsum | hone
  · exact .inl (((sub.map cfg.weight).sum_le_sum (fun _ _ => Nat.zero_le _)).trans hsum)
  · have hle : (t.rampingRails cfg).length ≤ 1 := hone ▸ sub.length_le
    rcases Nat.le_one_iff_eq_zero_or_eq_one.mp hle with h0 | h1
    · exact .inl (by simp [List.eq_nil_of_length_eq_zero h0])
    · exact .inr h1

/-- A board on which one slot alone may be a rail in RAMPING fits every budget or is the exception of R79. -/
theorem fitsBudget_of_alone {cfg : WorkingConfig} {b : Board} (i : Slot) (h : ∀ j ∈ b.rampingRails cfg, j = i) :
    b.fitsBudget cfg := by
  have hsub : b.rampingRails cfg ⊆ [i] := fun j hj => List.mem_singleton.mpr (h j hj)
  have hle : (b.rampingRails cfg).length ≤ 1 := ((slots_nodup.filter _).subperm hsub).length_le
  rcases Nat.le_one_iff_eq_zero_or_eq_one.mp hle with h0 | h1
  · exact .inl (by simp [List.eq_nil_of_length_eq_zero h0])
  · exact .inr h1

/-- What is in use bounds the weights of the rails in RAMPING, so a budget not exceeded by the one fits the others. -/
theorem Accounted.fits_of_inUse {cfg : WorkingConfig} {b : Board} (h : Accounted cfg b)
    (hle : b.inUse ≤ cfg.settings.budget) : b.fitsBudget cfg := by
  left
  calc ((b.rampingRails cfg).map cfg.weight).sum
      = ((b.rampingRails cfg).map (fun i => (b.node i).charge)).sum := by
        rw [List.map_congr_left fun i hi => (h.weighed i hi).symm]
    _ ≤ (slots.map (fun i => (b.node i).charge)).sum :=
        ((List.filter_sublist.map _).sum_le_sum fun _ _ => Nat.zero_le _)
    _ = b.inUse := h.total.symm
    _ ≤ cfg.settings.budget := hle

/-- A board without a charge on which nothing ramps is accounted for under every configuration. -/
theorem charged_of_rampless (cfg : WorkingConfig) {b : Board} (hst : ∀ i, b.stateOf i ≠ .ramping)
    (hch : ∀ i, (b.node i).charge = 0) (hu : b.inUse = 0) : Charged cfg b where
  idle i hi := absurd (hch i) hi
  total := by simp [hu, hch]
  weighed i hi := absurd ((mem_rampingRails cfg b i).mp hi).1 (hst i)
  fits := fitsBudget_of_alone 0 fun i hi => absurd ((mem_rampingRails cfg b i).mp hi).1 (hst i)

/-! ### Changes that the accounts do not see -/

/-- The accounts read node states, charges and the budget in use alone. -/
theorem Charged.congr {cfg : WorkingConfig} {b t : Board} (h : Charged cfg b)
    (hn : ∀ i, (b.node i).sameAccount (t.node i)) (hu : t.inUse = b.inUse) : Charged cfg t := by
  have hst : ∀ i, t.stateOf i = b.stateOf i := fun i => (hn i).1
  have hch : ∀ i, (t.node i).charge = (b.node i).charge := fun i => (hn i).2
  have hrails : t.rampingRails cfg = b.rampingRails cfg := by simp only [Board.rampingRails, hst]
  exact {
    idle := fun i hi => (hst i).trans (h.idle i (hch i ▸ hi))
    total := by simp only [hu, hch, h.total]
    weighed := fun i hi => (hch i).trans (h.weighed i (hrails ▸ hi))
    fits := by have := h.fits; unfold Board.fitsBudget at *; rwa [hrails] }

/-- A change that writes no slot and leaves the budget in use. -/
theorem Charged.frame {cfg : WorkingConfig} {b t : Board} (h : Charged cfg b) (hn : t.nodes = b.nodes)
    (hu : t.inUse = b.inUse) : Charged cfg t :=
  h.congr (fun i => by simp only [Board.node, hn]; exact ⟨rfl, rfl⟩) hu

theorem charged_setNode {cfg : WorkingConfig} {b : Board} (h : Charged cfg b) (i : Slot) {n : Node}
    (hn : (b.node i).sameAccount n) : Charged cfg (b.setNode i n) := by
  refine h.congr (fun j => ?_) rfl
  by_cases hj : j = i
  · subst hj; rwa [node_setNode_self]
  · rw [node_setNode_ne _ _ _ _ hj]; exact ⟨rfl, rfl⟩

theorem charged_updNode {cfg : WorkingConfig} {b : Board} (h : Charged cfg b) (i : Slot) {f : Node → Node}
    (hf : ∀ n : Node, n.sameAccount (f n)) : Charged cfg (b.updNode i f) := charged_setNode h i (hf _)

theorem charged_map {cfg : WorkingConfig} {b : Board} (h : Charged cfg b) {f : Node → Node}
    (hf : ∀ n : Node, n.sameAccount (f n)) : Charged cfg { b with nodes := b.nodes.map f } :=
  h.congr (fun i => by rw [node_map]; exact hf _) rfl

theorem charged_ofFn {cfg : WorkingConfig} {b : Board} (h : Charged cfg b) {g : Slot → Node}
    (hg : ∀ i, (b.node i).sameAccount (g i)) : Charged cfg { b with nodes := Vector.ofFn g } :=
  h.congr (fun i => by rw [node_ofFn]; exact hg i) rfl

/-- What every turn keeps, a loop over a list keeps. -/
theorem charged_foldl {α : Type} {cfg : WorkingConfig} {f : Board → α → Board}
    (hf : ∀ b a, Charged cfg b → Charged cfg (f b a)) (l : List α) {b : Board} (h : Charged cfg b) :
    Charged cfg (l.foldl f b) := by
  induction l generalizing b with
  | nil => exact h
  | cons a l ih => exact ih (hf b a h)

/-! ### A change of one slot -/

/-- The charges' sum when one slot changes. -/
theorem sum_charge_onlySlot {i : Slot} {b t : Board} (h : OnlySlot i b t) :
    (slots.map (fun j => (t.node j).charge)).sum + (b.node i).charge
      = (slots.map (fun j => (b.node j).charge)).sum + (t.node i).charge := by
  have split : ∀ u : Board, (slots.map (fun j => (u.node j).charge)).sum
      = (u.node i).charge + ∑ j ∈ Finset.univ.erase i, (u.node j).charge := fun u => by
    rw [Finset.add_sum_erase _ (fun j => (u.node j).charge) (Finset.mem_univ i), Fin.sum_univ_def]
    rfl
  have rest : ∑ j ∈ Finset.univ.erase i, (t.node j).charge = ∑ j ∈ Finset.univ.erase i, (b.node j).charge :=
    Finset.sum_congr rfl fun j hj => by rw [h j (Finset.ne_of_mem_erase hj)]
  rw [split t, split b, rest]
  omega

/-- A change of one slot keeps the accounts when the budget in use goes along with its charge. -/
theorem Accounted.of_onlySlot {cfg : WorkingConfig} {i : Slot} {b t : Board} (h : Accounted cfg b) (ho : OnlySlot i b t)
    (hu : t.inUse + (b.node i).charge = b.inUse + (t.node i).charge)
    (hidle : (t.node i).charge ≠ 0 → t.stateOf i = .ramping)
    (hw : i ∈ t.rampingRails cfg → (t.node i).charge = cfg.weight i) : Accounted cfg t where
  idle j hj := by
    by_cases hji : j = i
    · subst hji; exact hidle hj
    · have hsame : t.stateOf j = b.stateOf j := congrArg Node.state (ho j hji)
      rw [ho j hji] at hj
      exact hsame.trans (h.idle j hj)
  total := by
    have hsum := sum_charge_onlySlot ho
    have htotal := h.total
    omega
  weighed j hj := by
    by_cases hji : j = i
    · subst hji; exact hw hj
    · rw [ho j hji]
      refine h.weighed j ?_
      rw [mem_rampingRails] at hj ⊢
      rwa [← show t.stateOf j = b.stateOf j from congrArg Node.state (ho j hji)]

/-- Another slot is a rail in RAMPING after a change exactly when it was before. -/
theorem mem_rampingRails_onlySlot {cfg : WorkingConfig} {i j : Slot} {b t : Board} (ho : OnlySlot i b t)
    (hj : j ≠ i) : j ∈ t.rampingRails cfg ↔ j ∈ b.rampingRails cfg := by
  rw [mem_rampingRails, mem_rampingRails, show t.stateOf j = b.stateOf j from congrArg Node.state (ho j hj)]

/-- One slot's charge is part of what is in use. -/
theorem Accounted.charge_le {cfg : WorkingConfig} {b : Board} (h : Accounted cfg b) (i : Slot) :
    (b.node i).charge ≤ b.inUse := by
  rw [h.total]
  exact List.single_le_sum (fun _ _ => Nat.zero_le _) _ (List.mem_map_of_mem (mem_slots i))

theorem Accounted.charge_eq_zero {cfg : WorkingConfig} {b : Board} (h : Accounted cfg b) {i : Slot}
    (hi : b.stateOf i ≠ .ramping) : (b.node i).charge = 0 := by
  by_contra hc
  exact hi (h.idle i hc)

/-- A slot that is no rail in RAMPING after a change adds no rail to those in RAMPING. -/
theorem Charged.of_noRail {cfg : WorkingConfig} {i : Slot} {b t : Board} (h : Charged cfg b) (ho : OnlySlot i b t)
    (ha : Accounted cfg t) (hi : i ∉ t.rampingRails cfg) : Charged cfg t where
  toAccounted := ha
  fits := fitsBudget_of_subset h.fits fun j hj => by
    have hji : j ≠ i := fun e => hi (e ▸ hj)
    exact (mem_rampingRails_onlySlot ho hji).mp hj

/-- A node that takes a state other than RAMPING gives its charge back (R78). -/
theorem charged_enter {cfg : WorkingConfig} {b : Board} (h : Charged cfg b) (table : WorkingConfig) (i : Slot)
    {st : NodeState} (dl : Option Deadline) (hst : st ≠ .ramping) : Charged cfg (enter table b i st dl) := by
  have ho := onlySlot_enter table b i st dl
  have hzero : ((enter table b i st dl).node i).charge = 0 := by simp [Node.withState, hst]
  have hi : i ∉ (enter table b i st dl).rampingRails cfg := by simp [mem_rampingRails, hst]
  have hu : (enter table b i st dl).inUse + (b.node i).charge = b.inUse := by
    show releasedBudget b.inUse (b.node i) st + _ = _
    have hle := h.charge_le i
    by_cases hr : (b.node i).state = .ramping
    · simp only [releasedBudget, hr, hst, ne_eq, not_false_eq_true, and_self, if_true]; omega
    · simp only [releasedBudget, hr, false_and, if_false, h.charge_eq_zero hr, Nat.add_zero]
  exact h.of_noRail ho (h.of_onlySlot ho (by rw [hu, hzero, Nat.add_zero]) (absurd hzero) (absurd · hi)) hi

/-- A slot that is not in RAMPING enters it with the charge it has, none. -/
theorem charge_enter_ramping {cfg : WorkingConfig} {b : Board} (h : Accounted cfg b) (table : WorkingConfig) {i : Slot}
    (dl : Option Deadline) (hi : b.stateOf i ≠ .ramping) :
    ((enter table b i .ramping dl).node i).charge = 0 ∧ (enter table b i .ramping dl).inUse = b.inUse :=
  ⟨by simp [Node.withState, h.charge_eq_zero hi], by simp [enter, releasedBudget]⟩

/-- A node that is no RAIL enters RAMPING without a charge (R71, R78). -/
theorem charged_enter_noRail {cfg : WorkingConfig} {b : Board} (h : Charged cfg b) (table : WorkingConfig) {i : Slot}
    {r : NodeRecord} (dl : Option Deadline) (hr : cfg.node i = some r) (hrail : r.body.isRail = false)
    (hi : b.stateOf i ≠ .ramping) : Charged cfg (enter table b i .ramping dl) := by
  have ho := onlySlot_enter table b i .ramping dl
  obtain ⟨hzero, hu⟩ := charge_enter_ramping h.toAccounted table dl hi
  have hni : i ∉ (enter table b i .ramping dl).rampingRails cfg := by simp [mem_rampingRails, hr, hrail]
  refine h.of_noRail ho (h.of_onlySlot ho ?_ (absurd hzero) (absurd · hni)) hni
  rw [hu, hzero, h.charge_eq_zero hi]

/-! ### The node switch -/

section
variable {e : Env} {b t : Board}

theorem charged_fall (h : Charged e.cfg b) (i : Slot) : Charged e.cfg (fall e b i) := by
  unfold fall
  split
  · exact h
  · exact charged_enter h _ _ _ (by split <;> decide)

theorem charged_toSettling (h : Charged e.cfg b) (i : Slot) : Charged e.cfg (toSettling e b i) := by
  unfold toSettling
  split
  · exact h
  · split <;> exact charged_enter h _ _ _ (by decide)

theorem charged_reportFault (h : Charged e.cfg b) (i : Slot) (k : FaultKind) (c : Consequence) :
    Charged e.cfg (reportFault e b i k c) := by
  have faulted := charged_enter h e.cfg i none (st := .faulted k) (by simp)
  have marked := faulted.frame (t := { enter e.cfg b i (.faulted k) none with
    record := recordFault b i k (c != Consequence.none)
    blockTest := b.blockTest || b.phase == Phase.lowering }) rfl rfl
  have reported := charged_updNode marked i (f := fun n => { n with
    member := if b.phase == .lowering && (b.stateOf i).isFalling && (b.node i).member == some true then none
      else n.member }) fun _ => ⟨rfl, rfl⟩
  exact reported.frame rfl rfl

theorem charged_takeQuietEnding (h : Charged e.cfg b) (i : Slot) (ending : Ending) (c : Consequence) :
    Charged e.cfg (takeQuietEnding e b i ending c) := by
  cases ending with
  | off => exact charged_enter h _ _ _ (by decide)
  | blocked => exact charged_reportFault h i _ c

theorem charged_release (h : Charged e.cfg b) (i : Slot) (ending : Ending) (c : Consequence) :
    Charged e.cfg (release e b i ending c) := by
  unfold release
  split
  iterate 2 exact h
  iterate 2 exact charged_takeQuietEnding h i ending c
  iterate 4 exact charged_updNode (charged_fall h i) i fun _ => ⟨rfl, rfl⟩
  iterate 2 exact charged_updNode h i fun _ => ⟨rfl, rfl⟩

theorem charged_rampFailure (h : Charged e.cfg b) (i : Slot) : Charged e.cfg (rampFailure e b i) := by
  unfold rampFailure
  exact charged_updNode (charged_fall h i) i fun _ => ⟨rfl, rfl⟩

/-! ### The begin of REVERSING, faults and emergency off -/

theorem charged_returnToStart (h : Charged e.cfg b) (i : Slot) : Charged e.cfg (returnToStart e b i) := by
  unfold returnToStart
  split
  iterate 3 exact charged_enter h _ _ _ (by decide)
  all_goals exact h

theorem charged_blockReleased (h : Charged e.cfg b) (i : Slot) : Charged e.cfg (blockReleased e b i) := by
  unfold blockReleased
  split
  · split
    · exact charged_reportFault h i _ _
    iterate 2 exact charged_updNode h i fun _ => ⟨rfl, rfl⟩
    all_goals exact h
  · exact h

theorem sameAccount_dissolve (n : Node) (hasEntry : Bool) : n.sameAccount (n.dissolve hasEntry) := ⟨rfl, rfl⟩

theorem charged_beginReversing (h : Charged e.cfg b) : Charged e.cfg (beginReversing e b) := by
  unfold beginReversing
  extract_lets b1 b2 b3
  have returned : Charged e.cfg b2 :=
    charged_foldl (fun _ i hb => charged_returnToStart hb i) slots (h.frame (t := b1) rfl rfl)
  have dissolved : Charged e.cfg b3 := charged_ofFn returned fun i => sameAccount_dissolve _ _
  exact charged_foldl (fun _ i hb => charged_blockReleased hb i) slots dissolved

theorem charged_emergencyOff (h : Charged e.cfg b) (cause : Cause) (fault : Option (Slot × FaultKind)) :
    Charged e.cfg (emergencyOff e b cause fault) := by
  have released := charged_foldl (fun _ i hb => charged_release hb i .off .emergency) slots h
  exact (charged_map released (f := Node.clearPlan) fun _ => ⟨rfl, rfl⟩).frame rfl rfl

theorem charged_cascade (h : Charged e.cfg b) (released : List Slot) (c : Consequence) :
    Charged e.cfg (cascade e b released c) :=
  charged_foldl (fun _ i hb => charged_release hb i _ c) released h

theorem charged_takeFault (h : Charged e.cfg b) (i : Slot) (k : FaultKind) (loss : Bool) :
    Charged e.cfg (takeFault e b i k loss) := by
  unfold takeFault
  extract_lets released c b1
  have reported : Charged e.cfg b1 := charged_reportFault h i k c
  clear_value b1 c
  split
  · split
    · exact reported
    · exact charged_cascade reported _ _
  · exact charged_cascade (charged_beginReversing reported) _ _
  · exact charged_emergencyOff reported _ _

theorem charged_returnToIdle (h : Charged e.cfg b) : Charged e.cfg (returnToIdle b) :=
  (charged_map h (f := Node.clearPlan) fun _ => ⟨rfl, rfl⟩).frame rfl rfl

theorem charged_closeTransition (h : Charged e.cfg b) (r : Record) : Charged e.cfg (closeTransition b r) :=
  (charged_returnToIdle h).frame rfl rfl

theorem charged_endEmergency (h : Charged e.cfg b) : Charged e.cfg (endEmergency e b) := by
  unfold endEmergency
  split
  · exact charged_returnToIdle h
  · rename_i r _
    extract_lets r1 b1
    have closed : Charged e.cfg b1 := (charged_closeTransition h r1).frame rfl rfl
    split <;> exact closed.frame rfl rfl

/-! ### Ends of ramps and discharges -/

theorem charged_endFailureDischarge (h : Charged e.cfg b) (i : Slot) : Charged e.cfg (endFailureDischarge e b i) := by
  unfold endFailureDischarge
  extract_lets left b1
  have counted : Charged e.cfg b1 := charged_updNode h i fun _ => ⟨rfl, rfl⟩
  split_ifs
  · exact charged_takeFault h i _ _
  · exact charged_enter counted _ _ _ (by decide)
  · exact charged_takeFault counted i _ _
  · exact charged_enter counted _ _ _ (by decide)

theorem charged_takeEnding (h : Charged e.cfg b) (i : Slot) : Charged e.cfg (takeEnding e b i) := by
  unfold takeEnding
  split
  · exact charged_endFailureDischarge h i
  · split
    · exact charged_enter h _ _ _ (by decide)
    · split
      · exact charged_reportFault h i _ _
      · exact charged_takeFault h i _ _

theorem charged_deliver (h : Charged e.cfg b) (i : Slot) (r : Result) : Charged e.cfg (deliver e b i r) := by
  unfold deliver
  split
  · exact charged_toSettling h i
  · exact charged_takeFault h i _ _
  · exact charged_rampFailure h i
  iterate 2 exact charged_takeFault h i _ _
  iterate 2
    split
    · exact h
    · exact charged_takeEnding h i
  · exact h

theorem charged_rampExpires (h : Charged e.cfg b) (i : Slot) : Charged e.cfg (rampExpires e b i) := by
  unfold rampExpires
  split
  · exact h
  · split
    · exact charged_toSettling h i
    iterate 2 exact charged_rampFailure h i
    · exact charged_takeFault h i _ _
    · exact h

theorem charged_settleExpires (h : Charged e.cfg b) (i : Slot) : Charged e.cfg (settleExpires e b i) :=
  charged_enter h _ _ _ (by decide)

theorem charged_dischargeExpires (h : Charged e.cfg b) (i : Slot) : Charged e.cfg (dischargeExpires e b i) := by
  unfold dischargeExpires
  split
  · exact h
  · split
    · split
      · exact charged_takeEnding h i
      · exact charged_takeFault h i _ _
    iterate 2 exact charged_takeEnding h i
    · split
      · exact charged_takeEnding h i
      · exact charged_takeFault h i _ _
    · exact charged_takeEnding h i

/-! ### Arrivals -/

theorem charged_takeIfArmed (h : Charged e.cfg b) (id : SourceId) : Charged e.cfg (takeIfArmed e b id) := by
  unfold takeIfArmed takeArrival
  split
  · split
    · exact h.frame rfl rfl
    · split
      · exact charged_beginReversing (h.frame rfl rfl)
      · exact h.frame rfl rfl
  · exact h

theorem charged_clearLockout (h : Charged e.cfg b) (ht : clearLockout e b = some t) : Charged e.cfg t := by
  unfold clearLockout at ht
  split at ht
  · cases ht; exact h
  · cases ht; exact h.frame rfl rfl
  · split at ht
    · cases ht
    · cases ht; exact h.frame rfl rfl

theorem charged_arrive (h : Charged e.cfg b) (id : SourceId) : Charged e.cfg (arrive e b id) := by
  unfold arrive
  split
  · split
    · exact h
    · rename_i b1 hb1; exact charged_takeIfArmed (charged_clearLockout h hb1) id
  · exact charged_takeIfArmed h id

/-! ### The arbiter (R80 to R86) -/

theorem mem_insertByKey (key : Slot → Nat) (i j : Slot) (l : List Slot) :
    j ∈ insertByKey key i l ↔ j = i ∨ j ∈ l := by
  induction l with
  | nil => simp [insertByKey]
  | cons k l ih =>
    unfold insertByKey
    split
    · simp
    · rw [List.mem_cons, ih, List.mem_cons, or_left_comm]

/-- What the arbiter orders was there before. -/
theorem mem_of_mem_arbiterOrder {cfg : WorkingConfig} {i : Slot} {l : List Slot} (h : i ∈ arbiterOrder cfg b l) :
    i ∈ l := by
  unfold arbiterOrder at h
  split at h
  · induction l with
    | nil => exact h
    | cons j l ih =>
      rw [List.foldr_cons, mem_insertByKey] at h
      exact List.mem_cons.mpr (h.imp_right ih)
  · simp only [List.mem_append, List.mem_filter] at h
    exact h.elim And.left And.left

/-- The arbiter queue holds QUEUED nodes alone (R80). -/
theorem stateOf_of_mem_queue {cfg : WorkingConfig} {i : Slot} (h : i ∈ b.queue cfg) : b.stateOf i = .queued := by
  have hi := (List.mem_filter.mp (mem_of_mem_arbiterOrder h)).2
  simpa using hi

/-- The test of R85: what is in use and the weight of the head together fit the budget, or nothing ramps beside it. -/
theorem mayGrant_cases {i : Slot} (h : mayGrant e b i = true) :
    b.inUse + e.cfg.weight i ≤ e.cfg.settings.budget ∨ b.rampingRails e.cfg = [] := by
  unfold mayGrant at h
  extract_lets budget rails at h
  split at h
  · rw [Bool.and_eq_true, decide_eq_true_eq] at h
    exact .inl h.1
  · exact .inr (List.isEmpty_iff.mp h)

/-- A charge is written to a slot (R78). -/
def Node.withCharge (w : Nat) (n : Node) : Node := { n with charge := w }

/-- A grant before its stack entry: the node in RAMPING with its weight charged (R86). -/
def grantCharge (e : Env) (b : Board) (i : Slot) : Board :=
  let b1 := (toRamping e b i).updNode i (Node.withCharge (e.cfg.weight i))
  { b1 with inUse := b1.inUse + e.cfg.weight i, pointer := i }

theorem grant_eq (e : Env) (b : Board) (i : Slot) : grant e b i = grantEntry (grantCharge e b i) i := rfl

theorem onlySlot_grantCharge (e : Env) (b : Board) (i : Slot) : OnlySlot i b (grantCharge e b i) :=
  (onlySlot_toRamping e b i).trans (onlySlot_updNode _ i (Node.withCharge (e.cfg.weight i)))

theorem node_grantCharge_self (e : Env) (b : Board) (i : Slot) :
    (grantCharge e b i).node i = ((toRamping e b i).node i).withCharge (e.cfg.weight i) :=
  node_updNode_self (toRamping e b i) i _

@[simp] theorem charge_grantCharge (e : Env) (b : Board) (i : Slot) :
    ((grantCharge e b i).node i).charge = e.cfg.weight i :=
  congrArg Node.charge (node_grantCharge_self e b i)

theorem stateOf_grantCharge (e : Env) (b : Board) (i : Slot) :
    (grantCharge e b i).stateOf i = (toRamping e b i).stateOf i := by
  unfold Board.stateOf
  rw [node_grantCharge_self]
  rfl

/-- A grant charges its node and puts a slot with a weight into RAMPING. -/
theorem accounted_grantCharge (h : Accounted e.cfg b) {i : Slot} (hi : b.stateOf i = .queued) :
    Accounted e.cfg (grantCharge e b i) := by
  have hnot : b.stateOf i ≠ .ramping := by simp [hi]
  have hu : (grantCharge e b i).inUse = b.inUse + e.cfg.weight i := by
    show (toRamping e b i).inUse + _ = _
    unfold toRamping
    split
    · rfl
    · rw [(charge_enter_ramping h _ _ hnot).2]
  refine h.of_onlySlot (onlySlot_grantCharge e b i) ?_ (fun hc => ?_) fun _ => charge_grantCharge e b i
  · rw [hu, charge_grantCharge, h.charge_eq_zero hnot, Nat.add_zero]
  · rw [charge_grantCharge] at hc
    rw [stateOf_grantCharge]
    unfold toRamping
    split
    · rename_i hn; simp [WorkingConfig.weight, hn] at hc
    · exact stateOf_enter_self ..

/-- A grant that R85 allows keeps the budget law: what is then in use fits, or the rail ramps alone (R79). -/
theorem charged_grantCharge (h : Charged e.cfg b) {i : Slot} (hi : b.stateOf i = .queued)
    (hmay : mayGrant e b i = true) : Charged e.cfg (grantCharge e b i) where
  toAccounted := accounted_grantCharge h.toAccounted hi
  fits := by
    have accounted := accounted_grantCharge h.toAccounted hi
    rcases mayGrant_cases hmay with hroom | halone
    · refine accounted.fits_of_inUse ?_
      have hzero : (b.node i).charge = 0 := h.charge_eq_zero (by simp [hi])
      have hsum := sum_charge_onlySlot (onlySlot_grantCharge e b i)
      rw [← accounted.total, ← h.total, hzero, charge_grantCharge] at hsum
      omega
    · refine fitsBudget_of_alone i fun j hj => ?_
      by_contra hji
      have := (mem_rampingRails_onlySlot (onlySlot_grantCharge e b i) hji).mp hj
      rw [halone] at this
      cases this

theorem charged_grantEntry (h : Charged e.cfg b) (i : Slot) : Charged e.cfg (grantEntry b i) := by
  unfold grantEntry
  split
  · split
    · exact h.frame rfl rfl
    · exact h
  all_goals
    split
    · exact h
    · exact h.frame rfl rfl

theorem charged_grantStep (h : Charged e.cfg b) (ht : grantStep e b = some t) : Charged e.cfg t := by
  unfold grantStep at ht
  split at ht
  · cases ht
  · rename_i i l hq
    split at ht
    · rename_i hmay
      cases ht
      have hi : b.stateOf i = .queued := stateOf_of_mem_queue (hq ▸ List.mem_cons_self)
      rw [grant_eq]
      exact charged_grantEntry (charged_grantCharge h hi hmay) i
    · cases ht

/-! ### The start and the ends of a transition, and the claims -/

theorem charged_returnFaulted (h : Charged e.cfg b) (i : Slot) : Charged e.cfg (returnFaulted e.cfg b i) := by
  unfold returnFaulted
  split
  · exact charged_enter h _ _ _ (by decide)
  · exact h

theorem charged_takePending (h : Charged e.cfg b) (i : Slot) : Charged e.cfg (takePending e.cfg b i) := by
  unfold takePending
  split
  · exact charged_enter h _ _ _ (by decide)
  · exact charged_enter h _ _ _ (by decide)
  · exact h

theorem sameAccount_plan (n : Node) (cfg : WorkingConfig) (target : Platform) (on : List Slot) (i : Slot) :
    n.sameAccount (n.plan cfg target on i) := ⟨rfl, rfl⟩

theorem charged_start (h : Charged e.cfg b) (kind : Kind) (target : Platform) (origin : Origin)
    (wake : Option SourceId) (dwell : Option Nat) : Charged e.cfg (start e b kind target origin wake dwell) := by
  unfold start
  extract_lets b1 on plan b2
  have returned : Charged e.cfg b1 := by
    show Charged e.cfg (if _ then _ else _)
    split
    · exact charged_foldl (fun _ i hb => charged_returnFaulted hb i) slots h
    · exact h
  have planned : Charged e.cfg b2 :=
    (charged_ofFn returned (g := plan) fun i => sameAccount_plan _ _ _ _ _).frame rfl rfl
  exact charged_foldl (fun _ i hb => charged_takePending hb i) slots planned

theorem charged_complete (h : Charged e.cfg b) : Charged e.cfg (complete e b) := by
  unfold complete
  split
  · exact charged_returnToIdle h
  · exact (charged_returnToIdle h).frame rfl rfl

theorem sameAccount_blockFalling (n : Node) : n.sameAccount n.blockFalling := by
  unfold Node.blockFalling
  split <;> exact ⟨rfl, rfl⟩

theorem charged_endRaising (h : Charged e.cfg b) : Charged e.cfg (endRaising e b) := by
  unfold endRaising
  refine charged_complete ?_
  split
  · exact charged_map h sameAccount_blockFalling
  · exact h

theorem charged_endReversing (h : Charged e.cfg b) : Charged e.cfg (endReversing e b) := by
  unfold endReversing
  split
  · exact charged_returnToIdle h
  · exact (charged_returnToIdle h).frame rfl rfl

theorem charged_takeFollowOn (h : Charged e.cfg b) (f : FollowOn) : Charged e.cfg (takeFollowOn e b f) := by
  unfold takeFollowOn
  extract_lets b1
  have cleared : Charged e.cfg b1 := h.frame rfl rfl
  split
  · split
    · exact charged_start cleared ..
    · split
      · exact charged_start cleared ..
      · exact cleared
    · exact charged_start cleared ..
  · exact cleared

/-- A claim that an IDLE engine takes starts a transition on the board, with the claim's own mark cleared. -/
theorem takeClaim_cases (h : takeClaim e b = some t) : ∃ b1 kind target origin wake,
    t = start e b1 kind target origin wake none ∧ b1.nodes = b.nodes ∧ b1.inUse = b.inUse := by
  unfold takeClaim at h
  split at h
  · cases h
  split at h
  · exact ⟨_, _, _, _, _, (Option.some.inj h).symm, rfl, rfl⟩
  split at h
  · exact ⟨_, _, _, _, _, (Option.some.inj h).symm, rfl, rfl⟩
  split at h
  · exact ⟨_, _, _, _, _, (Option.some.inj h).symm, rfl, rfl⟩
  split at h
  · exact ⟨_, _, _, _, _, (Option.some.inj h).symm, rfl, rfl⟩
  · cases h

theorem charged_takeClaim (h : Charged e.cfg b) (ht : takeClaim e b = some t) : Charged e.cfg t := by
  obtain ⟨b1, kind, target, origin, wake, hstart, hn, hu⟩ := takeClaim_cases ht
  rw [hstart]
  exact charged_start (h.frame hn hu) kind target origin wake none

theorem charged_idleStep (h : Charged e.cfg b) (ht : idleStep e b = some t) : Charged e.cfg t := by
  rcases idleStep_cases ht with rfl | ⟨f, _, rfl⟩ | ⟨_, hclaim⟩
  · exact h.frame rfl rfl
  · exact charged_takeFollowOn h f
  · exact charged_takeClaim h hclaim

/-! ### The issue list -/

/-- The issue of an on action puts no RAIL into RAMPING: a RAIL joins the queue (R55). -/
theorem charged_issueOn (h : Charged e.cfg b) {i : Slot} (hi : b.stateOf i = .pending false) (act : ActKind) :
    Charged e.cfg (issueOn e b i act) := by
  unfold issueOn
  split
  · exact h
  · rename_i r hr
    split
    · exact charged_enter h _ _ _ (by decide)
    · exact (charged_toSettling h i).frame rfl rfl
    · rename_i hbody
      have hrail : r.body.isRail = false := by rw [hbody]; rfl
      have ramps : Charged e.cfg (toRamping e b i) := by
        unfold toRamping
        rw [hr]
        exact charged_enter_noRail h _ _ hr hrail (by simp [hi])
      exact ramps.frame rfl rfl

theorem charged_issueOff (h : Charged e.cfg b) (i : Slot) (act : ActKind) : Charged e.cfg (issueOff e b i act) := by
  unfold issueOff
  extract_lets ending
  exact (charged_updNode (charged_fall h i) i (f := fun n => { n with ending := ending }) fun _ => ⟨rfl, rfl⟩).frame
    rfl rfl

theorem charged_issueAction (h : Charged e.cfg b) (a : Action) : Charged e.cfg (issueAction e b a) := by
  have cleared : Charged e.cfg { b with reversible := b.reversible && !(a.act == .off && e.cfg.irreversible a.slot) } :=
    h.frame rfl rfl
  unfold issueAction
  split
  iterate 2
    split
    · rename_i hi; exact charged_issueOn h hi _
    · exact h
  iterate 2
    extract_lets b1
    split
    · exact charged_issueOff cleared _ _
    · exact cleared

theorem charged_issueHead (h : Charged e.cfg b) : Charged e.cfg (issueHead e b) := by
  unfold issueHead
  split
  · exact h
  · refine charged_issueAction ?_ _
    exact h.frame rfl rfl

theorem charged_issueStep (h : Charged e.cfg b) (ht : issueStep e b = some t) : Charged e.cfg t := by
  unfold issueStep at ht
  split at ht
  · cases ht
  split at ht
  · split at ht
    · cases ht
    · cases ht; exact h.frame rfl rfl
  · cases ht; exact charged_issueHead h

theorem charged_purgeStep (h : Charged e.cfg b) (ht : purgeStep b = some t) : Charged e.cfg t := by
  unfold purgeStep at ht
  split at ht
  · cases ht; exact h.frame rfl rfl
  · cases ht

theorem charged_eligibleStep (h : Charged e.cfg b) {act : ActKind} {test : Slot → Bool}
    (ht : eligibleStep b act test = some t) : Charged e.cfg t := by
  unfold eligibleStep at ht
  split at ht
  · cases ht
  · cases ht; exact h.frame rfl rfl

/-! ### The phases -/

theorem charged_blockStep (h : Charged e.cfg b) (ht : blockStep e b = some t) : Charged e.cfg t := by
  unfold blockStep at ht
  split at ht
  · cases ht
  · cases ht; exact charged_takeFault h _ _ _

theorem charged_blockTestStep (h : Charged e.cfg b) (ht : blockTestStep e b = some t) : Charged e.cfg t := by
  unfold blockTestStep at ht
  split at ht
  · split at ht
    · rename_i hblock; cases ht; exact charged_blockStep h hblock
    · cases ht; exact h.frame rfl rfl
  · cases ht

theorem charged_levelStep (h : Charged e.cfg b) (ht : levelStep e b = some t) : Charged e.cfg t := by
  unfold levelStep at ht
  split at ht
  · cases ht
  · cases ht
    refine charged_foldl (fun b i hb => ?_) _ h
    split
    · exact charged_takeFault hb i _ _
    · exact charged_reportFault hb i _ _

theorem charged_rejoinStep (h : Charged e.cfg b) (ht : rejoinStep e b = some t) : Charged e.cfg t := by
  unfold rejoinStep at ht
  split at ht
  · cases ht
  · cases ht; exact charged_enter h _ _ _ (by decide)

theorem charged_retryStep (h : Charged e.cfg b) (ht : retryStep e b = some t) : Charged e.cfg t := by
  unfold retryStep at ht
  split at ht
  · cases ht
  · cases ht; exact charged_enter h _ _ _ (by decide)

theorem charged_undoneStep (h : Charged e.cfg b) (ht : undoneStep b = some t) : Charged e.cfg t := by
  unfold undoneStep at ht
  split at ht
  iterate 2
    split at ht
    · cases ht; exact h.frame rfl rfl
    · cases ht
  · cases ht

theorem charged_settleTop (h : Charged e.cfg b) {a : Action} {rest : List Action}
    (ht : settleTop e b a rest = some t) : Charged e.cfg t := by
  unfold settleTop at ht
  split at ht
  iterate 4 cases ht; exact h.frame rfl rfl
  · split at ht
    · cases ht; exact (charged_enter h e.cfg _ none (by decide)).frame rfl rfl
    · cases ht
  · split at ht
    · cases ht; exact (charged_enter h e.cfg _ none (by decide)).frame rfl rfl
    · cases ht
      refine charged_takeFault ?_ _ _ _
      exact h.frame rfl rfl
  · cases ht

theorem charged_undoStep (h : Charged e.cfg b) (ht : undoStep e b = some t) : Charged e.cfg t := by
  unfold undoStep at ht
  split at ht
  · split at ht
    · cases ht
    · exact charged_settleTop h ht
  · cases ht

theorem charged_loweringStep (h : Charged e.cfg b) (ht : loweringStep e b = some t) : Charged e.cfg t := by
  rcases loweringStep_cases ht with hp | hl | hj | hb | hel | hi | ⟨_, rfl⟩
  · exact charged_purgeStep h hp
  · exact charged_levelStep h hl
  · exact charged_rejoinStep h hj
  · exact charged_blockTestStep h hb
  · exact charged_eligibleStep h hel
  · exact charged_issueStep h hi
  · exact h.frame rfl rfl

theorem charged_raisingStep (h : Charged e.cfg b) (ht : raisingStep e b = some t) : Charged e.cfg t := by
  rcases raisingStep_cases ht with hp | hb | hr | hel | hi | hg | ⟨_, rfl⟩
  · exact charged_purgeStep h hp
  · exact charged_blockStep h hb
  · exact charged_retryStep h hr
  · exact charged_eligibleStep h hel
  · exact charged_issueStep h hi
  · exact charged_grantStep h hg
  · exact charged_endRaising h

theorem charged_reversingStep (h : Charged e.cfg b) (ht : reversingStep e b = some t) : Charged e.cfg t := by
  rcases reversingStep_cases ht with hp | hd | hu | hi | hg | ⟨_, rfl⟩
  · exact charged_purgeStep h hp
  · exact charged_undoneStep h hd
  · exact charged_undoStep h hu
  · exact charged_issueStep h hi
  · exact charged_grantStep h hg
  · exact charged_endReversing h

/-- Every change of the engine keeps the accounts and the budget law. -/
theorem charged_engineStep (h : Charged e.cfg b) (ht : engineStep e b = some t) : Charged e.cfg t := by
  unfold engineStep at ht
  split at ht
  · exact charged_idleStep h ht
  · exact charged_loweringStep h ht
  · exact charged_raisingStep h ht
  · exact charged_reversingStep h ht
  · split at ht
    · cases ht; exact charged_endEmergency h
    · cases ht

end

/-! ### The end of an event -/

theorem sameAccount_markUnobserved (before after : Board) (i : Slot) (n : Node) :
    n.sameAccount (markUnobserved before after i n) := by
  unfold markUnobserved
  split <;> exact ⟨rfl, rfl⟩

/-- An event whose own effect keeps the accounts ends with them kept. -/
theorem charged_finish (s0 : State) {s : State} (h : s.charged) : (finish s0 s).charged :=
  finishBoard_induct s0 s (Charged s.cfg) (fun _ _ hb ht => charged_engineStep (e := s.env) hb ht)
    (fun _ id hb => charged_arrive (e := s.env) hb id)
    (fun _ hb => charged_ofFn hb fun _ => sameAccount_markUnobserved _ _ _ _) (fun _ _ _ hb => hb.frame rfl rfl) h

/-- The end of an event whose own effect leaves the working configuration and turns the board into `b`. -/
theorem charged_finish_board (s0 : State) {s : State} (b : Board) (h : Charged s.cfg b) :
    (finish s0 { s with board := b }).charged := charged_finish s0 (s := { s with board := b }) h

/-! ### A state with another board or another monitor -/

theorem charged_withBoard {s : State} {b : Board} (h : Charged s.cfg b) : State.charged { s with board := b } := h

theorem charged_withMonitor {s : State} (h : s.charged) (m : Monitor) : State.charged { s with monitor := m } := h

/-! ### Samples and passes (R93, R94) -/

theorem sameAccount_count (n : Node) (t : Tick) : n.sameAccount (n.count t) := by
  cases t <;> exact ⟨rfl, rfl⟩

/-- A counted sample and the event of its result. -/
theorem charged_takeSample {s : State} {b : Board} (h : Charged s.cfg b) (i : Slot) (r : NodeRecord) (t : Tick) :
    (s.takeSample i (countSample b i r t)).charged := by
  have counted : Charged s.cfg (countSample b i r t).1 := charged_setNode h i (sameAccount_count _ t)
  unfold State.takeSample
  split
  · exact counted
  · exact charged_finish_board s _ (charged_deliver (e := s.env) counted i _)

theorem charged_sampleAnalog {s : State} (h : s.charged) (i : Slot) (r : NodeRecord) (w : Window) (code : Nat) :
    (s.sampleAnalog i r w code).charged := by
  unfold State.sampleAnalog
  extract_lets st
  split
  · exact h
  · rename_i c _
    exact charged_takeSample (charged_updNode h i (f := fun n => n.hold w code c) fun _ => ⟨rfl, rfl⟩) i r _

theorem charged_sampleDigital {s : State} (h : s.charged) (i : Slot) (r : NodeRecord) (level : Level) :
    (s.sampleDigital i r level).charged := by
  unfold State.sampleDigital
  extract_lets n
  split
  iterate 2 exact charged_takeSample h i r _
  all_goals exact h

theorem charged_readChannel (m : RoundMode) (readings : Readings) {s : State} (c : Fin 12) (h : s.charged) :
    (s.readChannel m readings c).charged := by
  unfold State.readChannel
  split
  · exact h
  split
  · split
    · exact charged_sampleAnalog h _ _ _ _
    all_goals exact h
  · exact h

theorem charged_readInput (m : RoundMode) (readings : Readings) {s : State} (c : Fin 12) (h : s.charged) :
    (s.readInput m readings c).charged := by
  unfold State.readInput
  split
  · exact h
  split
  · exact charged_sampleDigital h _ _ _
  · exact h

theorem charged_pass {s : State} (h : s.charged) (m : RoundMode) (readings : Readings) :
    (s.pass m readings).charged :=
  pass_induct State.charged m readings (fun _ c hs => charged_readChannel m readings c hs)
    (fun _ c hs => charged_readInput m readings c hs) s h

theorem charged_afterContinuousRound {s : State} (h : s.charged) (readings : Readings) :
    (afterContinuousRound readings s).charged := by
  unfold afterContinuousRound
  split
  · exact charged_pass (charged_withMonitor h _) .continuous readings
  · exact h

theorem charged_afterSleepRoundBegin {s : State} (h : s.charged) : (afterSleepRoundBegin s).charged := by
  unfold afterSleepRoundBegin
  split <;> exact h

theorem charged_afterSleepRoundPass {s : State} (h : s.charged) (readings : Readings) :
    (afterSleepRoundPass readings s).charged := by
  unfold afterSleepRoundPass
  split
  · split
    · exact charged_withMonitor (charged_pass (charged_withMonitor h _) .sleep readings) _
    · exact h
  · exact h

/-! ### Requests (Table 11-1) -/

/-- A request whose owner keeps the accounts keeps them. -/
theorem charged_request {s : State} (h : s.charged) (type : Nat) (payload : List Byte) {owner : State → Answer}
    (ho : (owner s).state.charged) : (s.request type payload owner).charged := by
  unfold State.request
  split
  iterate 2 exact h
  split
  · exact h
  · unfold Answer.place
    extract_lets s1
    have placed : s1.charged := ho
    split
    · exact charged_finish s placed
    · exact placed

/-- Outside a transition nothing is charged, so the accounts hold under whatever configuration is put. -/
theorem State.charged.under_any {s : State} (h : s.charged) (hrest : s.board.phase.inTransition = false)
    (hr : s.ramplessAtRest) (cfg : WorkingConfig) : Charged cfg s.board := by
  have hch : ∀ i, (s.board.node i).charge = 0 := fun i => h.charge_eq_zero (hr hrest i)
  exact charged_of_rampless cfg (hr hrest) hch (by simp [h.total, hch])

/-- A put that is not answered BUSY is taken outside a transition (R40, R127, R205). -/
theorem inTransition_of_not_busy {s : State} (h : ¬(s.board.phase.inTransition || s.isSaving) = true) :
    s.board.phase.inTransition = false := by
  rw [Bool.not_eq_true, Bool.or_eq_false_iff] at h
  exact h.1

/-- A put leaves its slot's state and charge, or makes it OFF without a charge (R47). -/
theorem afterPut_cases (n : Node) (old new : Option NodeRecord) :
    n.sameAccount (n.afterPut old new) ∨ ((n.afterPut old new).state = .off ∧ (n.afterPut old new).charge = 0) := by
  have hforget : ∀ m : Node, m.sameAccount { m.forgetSample old new with retriesLeft := retriesOf new } := fun m => by
    unfold Node.forgetSample; split <;> exact ⟨rfl, rfl⟩
  have hrestart : n.sameAccount n.restartCounters := by
    unfold Node.restartCounters; split <;> exact ⟨rfl, rfl⟩
  obtain ⟨hst, hch⟩ := hforget (n.restartCounters.stateAfterPut old new)
  unfold Node.afterPut
  unfold Node.stateAfterPut at hst hch ⊢
  split at hst
  · rename_i hoff; rw [if_pos hoff] at hch ⊢; exact .inr ⟨hst, hch⟩
  · rename_i hoff; rw [if_neg hoff] at hch ⊢; exact .inl ⟨hst.trans hrestart.1, hch.trans hrestart.2⟩

/-- A put onto a board on which nothing ramps and nothing is charged leaves such a board. -/
theorem charged_putNode {s : State} (h : s.charged) (hrest : s.board.phase.inTransition = false)
    (hr : s.ramplessAtRest) (i : Slot) (rec : Option NodeRecord) : (s.putNode i rec).charged := by
  have hch : ∀ j, (s.board.node j).charge = 0 := fun j => h.charge_eq_zero (hr hrest j)
  have hself : (s.putNode i rec).board.node i = (s.board.node i).afterPut (s.cfg.node i) rec :=
    node_updNode_self s.board i fun n => n.afterPut (s.cfg.node i) rec
  have hother : ∀ j, j ≠ i → (s.putNode i rec).board.node j = s.board.node j :=
    fun j hj => node_updNode_ne s.board i j (fun n => n.afterPut (s.cfg.node i) rec) hj
  have slot : ∀ j, (s.putNode i rec).board.stateOf j ≠ .ramping ∧ ((s.putNode i rec).board.node j).charge = 0 := by
    intro j
    unfold Board.stateOf
    by_cases hj : j = i
    · subst hj
      rw [hself]
      rcases afterPut_cases (s.board.node j) (s.cfg.node j) rec with ⟨hst, hc⟩ | ⟨hst, hc⟩
      · exact ⟨hst ▸ hr hrest j, hc.trans (hch j)⟩
      · exact ⟨by simp [hst], hc⟩
    · rw [hother j hj]
      exact ⟨hr hrest j, hch j⟩
  exact charged_of_rampless _ (fun j => (slot j).1) (fun j => (slot j).2) (by
    show s.board.inUse = 0
    simp [h.total, hch])

theorem charged_enterAnswer {s : State} (h : s.charged) (target : Byte) (dwell : Half) :
    (enterAnswer target dwell s).state.charged := by
  unfold enterAnswer
  split
  · exact h
  · rename_i p _
    exact charged_withBoard (charged_start (e := s.env) h (enterKind s.board.platform p) p .request none _)

theorem charged_wakeAnswer {s : State} (h : s.charged) : (wakeAnswer s).state.charged := by
  unfold wakeAnswer
  split
  · exact h
  · split
    · exact h
    · exact charged_arrive (e := s.env) h linkId

theorem charged_checkinAnswer {s : State} (h : s.charged) : (checkinAnswer s).state.charged := by
  unfold checkinAnswer
  split
  · exact h
  · exact h.frame rfl rfl

theorem charged_holdAnswer {s : State} (h : s.charged) (field : Byte) : (holdAnswer field s).state.charged := by
  unfold holdAnswer
  split
  iterate 2 exact h.frame rfl rfl
  exact h

theorem charged_proceedAnswer {s : State} (h : s.charged) : (proceedAnswer s).state.charged := by
  unfold proceedAnswer
  split
  · exact charged_issueHead (e := s.env) h
  · exact h

theorem charged_lastAnswer {s : State} (h : s.charged) : (lastAnswer s).state.charged := by
  unfold lastAnswer
  split <;> exact h

theorem charged_nodeGetAnswer {s : State} (h : s.charged) (slot : Byte) : (nodeGetAnswer slot s).state.charged := by
  unfold nodeGetAnswer
  split <;> exact h

theorem charged_nodePutAnswer {s : State} (h : s.charged) (hr : s.ramplessAtRest) (p : List Byte) :
    (nodePutAnswer p s).state.charged := by
  unfold nodePutAnswer
  split
  · exact h
  split
  · exact h
  · rename_i hbusy
    have hrest := inTransition_of_not_busy hbusy
    split
    · split
      · exact h
      · exact charged_putNode h hrest hr _ _
    · exact h

theorem charged_clearFaultAnswer {s : State} (h : s.charged) (slot : Byte) :
    (clearFaultAnswer slot s).state.charged := by
  unfold clearFaultAnswer
  split
  · exact h
  · split_ifs
    · exact h
    · exact charged_enter h _ _ _ (by decide)
    · exact h

theorem charged_readRailAnswer {s : State} (h : s.charged) (slot : Byte) : (readRailAnswer slot s).state.charged := by
  unfold readRailAnswer
  split
  · exact h
  · split <;> exact h

theorem charged_sourceGetAnswer {s : State} (h : s.charged) (id : Byte) : (sourceGetAnswer id s).state.charged := by
  unfold sourceGetAnswer
  split <;> exact h

/-- A SOURCE_PUT writes no board (R127, R128). -/
theorem putSource_board {s t : State} {id : SourceId} {p : SourcePayload} {clamped : Bool}
    (h : putSource s id p = some (t, clamped)) : t.board = s.board := by
  unfold putSource at h
  split_ifs at h
  all_goals
    obtain ⟨r, _, hr⟩ := Option.map_eq_some_iff.mp h
    cases hr
  · unfold State.putLine
    extract_lets s1
    show s1.board = s.board
    show (if _ then _ else _ : State).board = s.board
    split <;> rfl
  iterate 2 rfl

theorem charged_sourcePutAnswer {s : State} (h : s.charged) (hr : s.ramplessAtRest) (p : SourcePayload) :
    (sourcePutAnswer p s).state.charged := by
  unfold sourcePutAnswer
  split
  · exact h
  · rename_i hbusy
    have hrest := inTransition_of_not_busy hbusy
    split
    · exact h
    · rename_i s1 clamped hput
      obtain ⟨id, _, hid⟩ := Option.bind_eq_some_iff.mp hput
      show Charged s1.cfg s1.board
      rw [putSource_board hid]
      exact h.under_any hrest hr s1.cfg

theorem charged_settingsPutAnswer {s : State} (h : s.charged) (hr : s.ramplessAtRest) (p : SettingsPayload) :
    (settingsPutAnswer p s).state.charged := by
  unfold settingsPutAnswer
  split
  · exact h
  · rename_i hbusy
    have hrest := inTransition_of_not_busy hbusy
    split
    · exact h
    · exact h.under_any hrest hr _

theorem charged_saveAnswer {s : State} (h : s.charged) : (saveAnswer s).state.charged := by
  unfold saveAnswer
  split <;> exact h

/-- Every request keeps the accounts; those that change the working configuration are taken outside a
transition alone. -/
theorem charged_afterRequest {s : State} (h : s.charged) (hr : s.ramplessAtRest) (c : Instr) :
    (afterRequest c s).charged := by
  cases c with
  | status => exact charged_request h _ _ h
  | enter target dwell => exact charged_request h _ _ (charged_enterAnswer h target dwell)
  | wake => exact charged_request h _ _ (charged_wakeAnswer h)
  | checkin => exact charged_request h _ _ (charged_checkinAnswer h)
  | hold field => exact charged_request h _ _ (charged_holdAnswer h field)
  | proceed => exact charged_request h _ _ (charged_proceedAnswer h)
  | last => exact charged_request h _ _ (charged_lastAnswer h)
  | nodeGet slot => exact charged_request h _ _ (charged_nodeGetAnswer h slot)
  | nodePut payload => exact charged_request h _ _ (charged_nodePutAnswer h hr payload)
  | clearFault slot => exact charged_request h _ _ (charged_clearFaultAnswer h slot)
  | readRail slot => exact charged_request h _ _ (charged_readRailAnswer h slot)
  | sourceGet id => exact charged_request h _ _ (charged_sourceGetAnswer h id)
  | sourcePut p => exact charged_request h _ _ (charged_sourcePutAnswer h hr p)
  | settingsGet => exact charged_request h _ _ h
  | settingsPut p => exact charged_request h _ _ (charged_settingsPutAnswer h hr p)
  | save => exact charged_request h _ _ (charged_saveAnswer h)
  | _ => exact h

/-! ### The other bus transactions, reset and the load event -/

theorem charged_afterWrite {s : State} (h : s.charged) (hr : s.ramplessAtRest) (bytes : List Byte) :
    (afterWrite bytes s).charged := by
  unfold afterWrite
  split
  iterate 2 exact h
  split
  iterate 4 exact h
  split
  · exact h
  · rename_i c _
    have done := charged_afterRequest h hr c
    exact done

theorem charged_beginRead {s : State} (h : s.charged) : s.beginRead.charged := h.frame rfl rfl

theorem charged_endRead {s : State} (h : s.charged) (clocked : Nat) : (s.endRead clocked).charged := by
  unfold State.endRead
  split
  · exact h
  · rename_i r _
    have removed : (s.removeFrame r.source).charged := by
      unfold State.removeFrame
      split
      · exact h
      · exact h.frame rfl rfl
      · exact h
    extract_lets s1
    have kept : s1.charged := by
      show State.charged (if _ then _ else _)
      split
      · exact removed
      · exact h
    exact kept

theorem charged_afterReadTransaction {s : State} (h : s.charged) (op : ReadOp) :
    (afterReadTransaction op s).charged := by
  unfold afterReadTransaction
  split
  · cases op with
    | first => exact charged_beginRead h
    | last n => exact charged_endRead h n
    | whole n => exact charged_endRead (charged_beginRead h) n
  · exact h

theorem charged_afterPartReset (held : Nat) (s : State) : (afterPartReset held s).charged := by
  have hn : ∀ i, (afterPartReset held s).board.node i = Node.reset := fun i => by
    simp [afterPartReset, State.reset, Board.reset, Board.node, Vector.get_eq_getElem]
  refine charged_of_rampless _ (fun i => ?_) (fun i => ?_) rfl
  · unfold Board.stateOf
    rw [hn]
    exact NodeState.noConfusion
  · rw [hn]
    rfl

/-- The board the load event leaves has every node OFF (R39, R202). -/
theorem charged_loadedState (pins : Pins) (s : State) : (loadedState pins s).charged := by
  have hn : ∀ i, (loadedState pins s).board.node i = loadedNode (loadedState pins s).cfg i := fun i => by
    simp [loadedState, loadedBoard, Board.node, Vector.get_eq_getElem]
  refine charged_of_rampless _ (fun i => ?_) (fun i => ?_) rfl
  · unfold Board.stateOf
    rw [hn]
    exact NodeState.noConfusion
  · rw [hn]
    rfl

theorem charged_startUp {s : State} (h : s.charged) : (startUp s).charged := by
  unfold startUp
  split
  · refine charged_withBoard (charged_start (e := s.env) ?_ .relevel .off .start none none)
    exact h.frame rfl rfl
  · exact h

theorem charged_afterLoadEvent {s : State} (h : s.charged) (pins : Pins) : (afterLoadEvent pins s).charged := by
  unfold afterLoadEvent
  split
  · exact h
  · split
    · exact charged_finish _ (charged_startUp (charged_loadedState pins s))
    · exact h

theorem charged_afterSaveEnd {s : State} (h : s.charged) (readsBack : Bool) : (afterSaveEnd readsBack s).charged := by
  unfold afterSaveEnd
  split
  · exact h
  · split
    · refine charged_finish s ?_
      exact h.frame rfl rfl
    · exact h

/-! ### Timers, wake lines, the panel and the supply inputs -/

/-- A deadline's expiry keeps the accounts when its effect on the board does. -/
theorem charged_expire {s : State} (h : s.charged) (i : Slot) (k : DeadlineKind) {f : Env → Board → Slot → Board}
    (hf : Charged s.cfg (f s.env s.board i)) : (s.expire i k f).charged := by
  unfold State.expire
  split
  · exact charged_finish_board s _ hf
  · exact h

theorem charged_afterDwellExpiry {s : State} (h : s.charged) : (afterDwellExpiry s).charged := by
  unfold afterDwellExpiry
  split
  · split
    · exact charged_finish_board s _ (h.frame rfl rfl)
    · exact h
  all_goals exact h

theorem charged_afterWatchdogWarn {s : State} (h : s.charged) : (afterWatchdogWarn s).charged := by
  unfold afterWatchdogWarn
  split
  · split
    · exact h.frame rfl rfl
    · exact h
  all_goals exact h

theorem charged_afterWatchdogExpiry {s : State} (h : s.charged) : (afterWatchdogExpiry s).charged := by
  unfold afterWatchdogExpiry
  split
  · split
    · exact charged_finish_board s _ (h.frame rfl rfl)
    · exact h
  · exact h

theorem charged_qualify {s : State} (h : s.charged) (l : WakeLine) (q : Qualified) : (s.qualify l q).charged := by
  unfold State.qualify
  extract_lets s1
  split
  · exact charged_finish_board (s := s1) s _ (charged_arrive (e := s.env) h (lineId l))
  · exact h

theorem charged_afterWakeLineChange {s : State} (h : s.charged) (l : WakeLine) (level : Level) :
    (afterWakeLineChange l level s).charged := by
  have moved : (s.setWake l level).charged := h
  unfold afterWakeLineChange
  split
  · exact moved
  · extract_lets r s1
    split <;> exact charged_qualify moved l _

theorem charged_afterWakeDebounceExpiry {s : State} (h : s.charged) (l : WakeLine) :
    (afterWakeDebounceExpiry l s).charged := by
  unfold afterWakeDebounceExpiry
  extract_lets q
  split
  · exact charged_qualify h l _
  · exact h

theorem charged_afterCountWindowExpiry {s : State} (h : s.charged) (l : WakeLine) :
    (afterCountWindowExpiry l s).charged := by
  unfold afterCountWindowExpiry
  extract_lets q
  split <;> exact h

theorem charged_afterPwrbtnChange {s : State} (h : s.charged) (level : Level) :
    (afterPwrbtnChange level s).charged := by
  unfold afterPwrbtnChange
  extract_lets s1
  split
  · exact h
  · split <;> exact h

theorem charged_pressed {s : State} (h : s.charged) : s.pressed.charged := by
  unfold State.pressed
  extract_lets panel
  exact charged_finish s (charged_arrive (e := s.env) h buttonId)

theorem charged_released {s : State} (h : s.charged) : s.released.charged := by
  unfold State.released
  extract_lets panel
  split
  · exact h
  · split
    · exact h.frame rfl rfl
    · exact h

theorem charged_afterButtonDebounceExpiry {s : State} (h : s.charged) : (afterButtonDebounceExpiry s).charged := by
  unfold afterButtonDebounceExpiry
  split
  · split
    · exact charged_pressed h
    · exact charged_released h
    all_goals exact h
  · exact h

theorem charged_longPress {e : Env} {b : Board} (h : Charged e.cfg b) : Charged e.cfg (longPress e b) := by
  unfold longPress
  split
  · exact h
  · exact charged_emergencyOff h _ _

theorem charged_afterHoldTimerExpiry {s : State} (h : s.charged) : (afterHoldTimerExpiry s).charged := by
  unfold afterHoldTimerExpiry
  split
  · exact charged_finish s (charged_longPress (e := s.env) h)
  · exact h

theorem charged_afterSegmentExpiry {s : State} (h : s.charged) : (afterSegmentExpiry s).charged := by
  unfold afterSegmentExpiry
  split <;> exact h

theorem charged_afterInputPinChange {s : State} (h : s.charged) (i : SupplyInput) (level : Level) :
    (afterInputPinChange i level s).charged := by
  unfold afterInputPinChange
  extract_lets s1
  split <;> exact h

theorem charged_acokFalls {e : Env} {b : Board} (h : Charged e.cfg b) : Charged e.cfg (acokFalls e b) := by
  unfold acokFalls
  extract_lets b1
  have posted : Charged e.cfg b1 := h.frame rfl rfl
  split
  · exact charged_emergencyOff posted _ _
  · exact posted

theorem charged_hotshutAsserted {e : Env} {b : Board} (h : Charged e.cfg b) : Charged e.cfg (hotshutAsserted e b) := by
  unfold hotshutAsserted
  split
  · exact h.frame rfl rfl
  · exact charged_emergencyOff h _ _

theorem charged_supplyChange {e : Env} {b t : Board} (h : Charged e.cfg b) {i : SupplyInput} {level : Level}
    (ht : supplyChange e b i level = some t) : Charged e.cfg t := by
  unfold supplyChange at ht
  split at ht
  · obtain rfl := Option.some.inj ht; exact charged_acokFalls h
  · obtain rfl := Option.some.inj ht; exact h
  · obtain rfl := Option.some.inj ht; exact charged_hotshutAsserted h
  · cases ht

theorem charged_afterInputFilterExpiry {s : State} (h : s.charged) (i : SupplyInput) :
    (afterInputFilterExpiry i s).charged := by
  unfold afterInputFilterExpiry
  split
  · extract_lets level s1
    split
    · exact h
    · rename_i b hb
      exact charged_finish_board (s := s1) s b (charged_supplyChange (e := s1.env) h hb)
  · exact h

/-! ### Every command and every step -/

/-- Every command keeps the accounts and the budget law. -/
theorem charged_exec {s : State} (h : s.charged) (hr : s.ramplessAtRest) (c : Instr) :
    ∃ t, exec c s = .next t ∧ t.charged := by
  have request := charged_afterRequest h hr c
  cases c with
  | invalidRequest bytes | ignoredWrite bytes => exact ⟨_, rfl, charged_afterWrite h hr bytes⟩
  | busProbe address => exact ⟨_, rfl, h⟩
  | readTransaction op => exact ⟨_, rfl, charged_afterReadTransaction h op⟩
  | partReset held => exact ⟨_, rfl, charged_afterPartReset held s⟩
  | loadEvent pins => exact ⟨_, rfl, charged_afterLoadEvent h pins⟩
  | saveEnd readsBack => exact ⟨_, rfl, charged_afterSaveEnd h readsBack⟩
  | continuousRound readings => exact ⟨_, rfl, charged_afterContinuousRound h readings⟩
  | sleepRoundBegin => exact ⟨_, rfl, charged_afterSleepRoundBegin h⟩
  | sleepRoundPass readings => exact ⟨_, rfl, charged_afterSleepRoundPass h readings⟩
  | rampDeadlineExpiry i => exact ⟨_, rfl, charged_expire h i .ramp (charged_rampExpires (e := s.env) h i)⟩
  | settleTimeExpiry i => exact ⟨_, rfl, charged_expire h i .settle (charged_settleExpires (e := s.env) h i)⟩
  | dischargeDeadlineExpiry i =>
    exact ⟨_, rfl, charged_expire h i .discharge (charged_dischargeExpires (e := s.env) h i)⟩
  | wakeLineChange l level => exact ⟨_, rfl, charged_afterWakeLineChange h l level⟩
  | wakeDebounceExpiry l => exact ⟨_, rfl, charged_afterWakeDebounceExpiry h l⟩
  | countWindowExpiry l => exact ⟨_, rfl, charged_afterCountWindowExpiry h l⟩
  | pwrbtnChange level => exact ⟨_, rfl, charged_afterPwrbtnChange h level⟩
  | buttonDebounceExpiry => exact ⟨_, rfl, charged_afterButtonDebounceExpiry h⟩
  | holdTimerExpiry => exact ⟨_, rfl, charged_afterHoldTimerExpiry h⟩
  | segmentExpiry => exact ⟨_, rfl, charged_afterSegmentExpiry h⟩
  | inputPinChange i level => exact ⟨_, rfl, charged_afterInputPinChange h i level⟩
  | inputFilterExpiry i => exact ⟨_, rfl, charged_afterInputFilterExpiry h i⟩
  | dwellExpiry => exact ⟨_, rfl, charged_afterDwellExpiry h⟩
  | watchdogWarn => exact ⟨_, rfl, charged_afterWatchdogWarn h⟩
  | watchdogExpiry => exact ⟨_, rfl, charged_afterWatchdogExpiry h⟩
  | _ => exact ⟨_, rfl, request⟩

/-- Every step keeps the accounts and the budget law. -/
theorem charged_step {s t : State} (h : s.charged) (hr : s.ramplessAtRest) (ht : step s = .next t) : t.charged := by
  unfold step at ht
  split at ht
  · cases ht
    unfold idle
    split <;> exact h
  · rename_i c rest _
    obtain ⟨u, hu, hcharged⟩ := charged_exec (s := { s with pending := rest }) h hr c
    rw [hu] at ht
    cases ht
    exact hcharged

/-- The laws of the switch and of the budget hold the accounts. -/
theorem charged_of_laws {s : State} (hs : SwitchInv s) (hb : BudgetInv s) : s.charged := by
  obtain ⟨hnodes, _, htotal⟩ := hs
  obtain ⟨hlaw, hweighed⟩ := hb
  refine { idle := fun i => ?_, total := htotal, weighed := hweighed, fits := hlaw }
  obtain ⟨_, _, _, _, hidle⟩ := hnodes i
  exact hidle

/-- The accounts hold the budget law and the charges of the rails in RAMPING. -/
theorem State.charged.budgetInv {s : State} (h : s.charged) : BudgetInv s := ⟨h.fits, h.weighed⟩

/-- Under the law of the order nothing ramps outside a transition. -/
theorem ramplessAtRest_of_order {s : State} (h : OrderInv s) : s.ramplessAtRest := by
  obtain ⟨_, _, _, _, _, _, horder⟩ := h
  have quiet : IdleOrder s → ∀ i, s.board.stateOf i ≠ .ramping := by
    rintro ⟨_, _, hidle⟩ i hi
    have hq := (hidle i).1
    rw [hi] at hq
    cases hq
  intro hrest
  cases hp : s.board.phase with
  | idle => rw [hp] at horder; exact quiet horder
  | draining => rw [hp] at horder; exact quiet horder.1
  | lowering | raising | reversing => rw [hp] at hrest; cases hrest

/-- Settles O60: the accounts, as an invariant of every operation, give the law after the step. -/
theorem inrushStaysInBudget : Obligations.InrushStaysInBudget := by
  unfold Obligations.InrushStaysInBudget
  intro s t hswitch horder hbudget ht
  have kept := charged_step (charged_of_laws hswitch hbudget) (ramplessAtRest_of_order horder) ht
  exact ⟨kept.budgetInv, kept.fits⟩

end Sys2Proof.Machine
end

section
/-! SUPPORT. Arming and unarmed arrivals: what an armed set contains, what the engine's situation allows, the two
conditions that override it, and how an arrival comes to be discarded. -/

namespace Sys2Proof.Machine

variable {e : Env} {b : Board} {a : Armed} {id : SourceId}

/-! ### The arming situation (R115) -/

/-- An armed set contains sleeping states alone, never WORKING (R115). -/
theorem Armed.has_iff (a : Armed) (p : Platform) : a.has p = true ↔
    (p = .doze ∧ a.doze = true) ∨ (p = .hibernate ∧ a.hibernate = true) ∨ (p = .off ∧ a.off = true) := by
  cases p <;> simp [Armed.has]

/-- In IDLE the platform state is looked up in the armed set. -/
theorem armedBySituation_idle (h : b.phase = .idle) : armedBySituation b a = a.has b.platform := by
  simp only [armedBySituation, h]

/-- In DRAINING the board is on its way to OFF. -/
theorem armedBySituation_draining (h : b.phase = .draining) : armedBySituation b a = a.has .off := by
  simp only [armedBySituation, h]

/-- A transition in progress arms by the from-state and the to-state of its record, through REVERSING. -/
theorem armedBySituation_transition_iff (h : b.phase = .lowering ∨ b.phase = .raising ∨ b.phase = .reversing) :
    armedBySituation b a = true ↔ ∃ r, b.record = some r ∧ (a.has r.source = true ∨ a.has r.target = true) := by
  obtain h | h | h := h <;> cases hr : b.record <;> simp [armedBySituation, h, hr]

/-! ### The two overrides (R116) -/

theorem armed_of_unconfigured (h : e.unconfigured = true) : armed e b id = false := by
  simp only [armed, h, if_true]

/-- Under a lockout BUTTON alone is armed. -/
theorem armed_of_lockout (hu : e.unconfigured = false) (hl : b.lockout ≠ .none) :
    armed e b id = (id == buttonId) := by
  simp [armed, hu, hl]

/-- With neither override the situation decides. -/
theorem armed_of_no_override (hu : e.unconfigured = false) (hl : b.lockout = .none) :
    armed e b id = armedBySituation b (e.cfg.armedSet id) := by
  simp [armed, hu, hl]

/-- Under a lockout a source other than BUTTON is unarmed, UNCONFIGURED or not. -/
theorem armed_eq_false_of_lockout (hl : b.lockout ≠ .none) (hid : id ≠ buttonId) : armed e b id = false := by
  cases hu : e.unconfigured with
  | true => exact armed_of_unconfigured hu
  | false => simpa [armed_of_lockout hu hl] using hid

/-! ### Arrivals that are discarded (R115, R116) -/

theorem takeIfArmed_of_unarmed (h : armed e b id = false) : takeIfArmed e b id = b := by
  simp [takeIfArmed, h]

/-- With no lockout there is nothing for the fault handler to clear. -/
theorem clearLockout_of_none (h : b.lockout = .none) : clearLockout e b = some b := by
  simp only [clearLockout, h]

/-- Only a BUTTON arrival goes to the fault handler first (R116). -/
theorem arrive_of_ne_button (h : id ≠ buttonId) : arrive e b id = takeIfArmed e b id := by
  simp only [arrive, if_neg h]

/-- Outside a lockout BUTTON arrives as every other source does. -/
theorem arrive_of_no_lockout (h : b.lockout = .none) : arrive e b id = takeIfArmed e b id := by
  by_cases hid : id = buttonId
  · simp only [arrive, if_pos hid, clearLockout_of_none h]
  · exact arrive_of_ne_button hid

end Sys2Proof.Machine
end

section
/-! SETTLEMENT. Arming follows the situation, and an unarmed arrival leaves the board as it was (R115, R116). -/

namespace Sys2Proof.Machine

/-- Settles O27: UNCONFIGURED disarms every source and a lockout all but BUTTON; otherwise the armed set is read as the
engine's phase says, and what is not armed is discarded. -/
theorem armingFollowsTheSituation : Obligations.ArmingFollowsTheSituation := by
  unfold Obligations.ArmingFollowsTheSituation
  intro e b id
  refine ⟨?table, ?outsideLockout, ?underLockout⟩
  case table =>
    cases hu : e.unconfigured with
    | true => simp [armed_of_unconfigured hu]
    | false =>
      by_cases hl : b.lockout = .none
      · rw [armed_of_no_override hu hl]
        cases hp : b.phase with
        | idle => simp [hl, armedBySituation_idle hp, Armed.has_iff]
        | draining => simp [hl, armedBySituation_draining hp, Armed.has_iff]
        | lowering | raising | reversing =>
          simp [hl, armedBySituation_transition_iff (b := b) (by simp [hp]), Armed.has_iff]
      · simp [armed_of_lockout hu hl, hl, buttonId]
  case outsideLockout =>
    intro hl hun
    rw [arrive_of_no_lockout hl, takeIfArmed_of_unarmed hun]
  case underLockout =>
    intro hl hid
    rw [arrive_of_ne_button hid, takeIfArmed_of_unarmed (armed_eq_false_of_lockout hl hid)]

end Sys2Proof.Machine
end

section
/-! SUPPORT. The resume watchdog's request and its two timed events, case by case in the watchdog's state: what CHECKIN
answers and leaves, and that a DISARMED watchdog neither warns nor expires. -/

namespace Sys2Proof.Machine

variable {s : State}

/-! ### The answer to CHECKIN (R175) -/

theorem checkinAnswer_of_disarmed (h : s.board.watchdog = .disarmed) : checkinAnswer s = .done s .ok := by
  simp only [checkinAnswer, h]

/-- An ARMED watchdog is disarmed with the counter cleared, whatever it was armed with. -/
theorem checkinAnswer_of_armed (h : s.board.watchdog ≠ .disarmed) :
    checkinAnswer s = .done { s with board := { s.board with watchdog := .disarmed, counter := 0 } } .ok := by
  cases hw : s.board.watchdog with
  | disarmed => exact absurd hw h
  | armed deadline at_ warned kind outcome => simp only [checkinAnswer, hw]

/-! ### CHECKIN as a whole -/

/-- CHECKIN leaves what its answer leaves, with OK in the reply slot, and nothing follows. -/
theorem exec_checkin_of_answer {t : State} (hs : s.isReady) (h : checkinAnswer s = .done t .ok) :
    exec .checkin s = .next (t.withReply 2 [0x84, 1, 0x00]) :=
  congrArg Host.Outcome.next (request_done hs 0x04 [] (Nat.zero_le _) checkinAnswer t .ok h)

/-! ### The timed events of a DISARMED watchdog (R174, R176) -/

/-- The warning point belongs to an ARMED watchdog. -/
theorem exec_watchdogWarn_of_disarmed (h : s.board.watchdog = .disarmed) : exec .watchdogWarn s = .next s := by
  have unmoved : afterWatchdogWarn s = s := by simp only [afterWatchdogWarn, h]
  exact congrArg Host.Outcome.next unmoved

/-- The expiry belongs to an ARMED watchdog. -/
theorem exec_watchdogExpiry_of_disarmed (h : s.board.watchdog = .disarmed) : exec .watchdogExpiry s = .next s := by
  have unmoved : afterWatchdogExpiry s = s := by simp only [afterWatchdogExpiry, h]
  exact congrArg Host.Outcome.next unmoved

end Sys2Proof.Machine
end

section
/-! SETTLEMENT. CHECKIN disarms an ARMED watchdog and clears the counter; nothing else changes (R175). -/

namespace Sys2Proof.Machine

/-- Settles O14: either row of R175 gives the exact next state, and in both the watchdog stands DISARMED, so that neither
of its timed events has anything to do. -/
theorem checkinDisarmsTheWatchdog : Obligations.CheckinDisarmsTheWatchdog := by
  unfold Obligations.CheckinDisarmsTheWatchdog
  intro s hs
  by_cases hw : s.board.watchdog = .disarmed
  · have still : (s.withReply 2 [0x84, 1, 0x00]).board.watchdog = .disarmed := by simpa using hw
    exact ⟨_, exec_checkin_of_answer hs (checkinAnswer_of_disarmed hw), fun _ => rfl, absurd hw,
      exec_watchdogWarn_of_disarmed still, exec_watchdogExpiry_of_disarmed still⟩
  · exact ⟨_, exec_checkin_of_answer hs (checkinAnswer_of_armed hw), (absurd · hw), fun _ => rfl,
      exec_watchdogWarn_of_disarmed rfl, exec_watchdogExpiry_of_disarmed rfl⟩

end Sys2Proof.Machine
end

section
/-! SUPPORT. STATUS: its reply frame as Table 11-5 lays it out, and the out-of-level count slot by slot. -/

namespace Sys2Proof.Machine

variable {s : State} {cfg : WorkingConfig} {b : Board}

/-! ### The items of Table 11-5 (R198) -/

theorem statusContents_length (s : State) : (statusContents s).length = 11 + s.board.wakes.length := by
  simp only [statusContents, List.length_append, List.length_map]
  rfl

/-- The reply frame of STATUS: LEN counts the status byte, the eleven items and the pending wakes. -/
theorem replyFrame_status (s : State) : replyFrame 0x01 .ok (statusContents s)
    = [0x81, byte1 (12 + s.board.wakes.length), 0x00] ++ statusContents s := by
  have hlen : (byte1 Status.ok.code :: statusContents s).length = 12 + s.board.wakes.length := by
    rw [List.length_cons, statusContents_length]; omega
  unfold replyFrame writeFrame
  rw [hlen]
  rfl

/-- Byte 3 of Table 11-5: off, on with nothing held, or on with an action held. -/
theorem byte1_stepHoldCode (b : Board) :
    byte1 (stepHoldCode b) = if b.stepHold then if b.held then 2 else 1 else 0 := by
  unfold stepHoldCode
  cases b.stepHold with
  | false => rfl
  | true => cases b.held <;> rfl

/-- STATUS places its reply and leaves the rest of the state as it is. -/
theorem exec_status (hs : s.isReady) : exec .status s = .next (s.withReply 2
    ([0x81, byte1 (12 + s.board.wakes.length), 0x00] ++ statusContents s)) := by
  have told := request_told hs 0x01 [] (Nat.zero_le _) (fun s => .tell s (statusContents s)) (statusContents s) rfl
  rw [replyFrame_status] at told
  exact congrArg Host.Outcome.next told

/-! ### The out-of-level count (R51, R34) -/

theorem slots_eq_finRange : slots = List.finRange 20 := by decide

theorem required_of_node {i : Slot} {r : NodeRecord} (h : cfg.node i = some r) (p : Platform) :
    cfg.required p i = r.levels.at p := by
  simp only [WorkingConfig.required, h]

theorem isFaulted_iff {st : NodeState} : st.isFaulted = true ↔ ∃ k, st = .faulted k := by
  cases st <;> simp [NodeState.isFaulted]

/-- A test of slots counts as the out-of-level count does when it passes over NONE and FAULTED nodes and tells of every
other node whether its actual level differs from its required level. -/
theorem outOfLevel_eq_length_filter {test : Slot → Bool} (hnone : ∀ i, cfg.node i = none → test i = false)
    (hfaulted : ∀ i, (b.stateOf i).isFaulted = true → test i = false)
    (hlevel : ∀ i r, cfg.node i = some r → (b.stateOf i).isFaulted = false →
      test i = ((b.stateOf i).level != r.levels.at b.platform)) :
    outOfLevel cfg b = ((List.finRange 20).filter test).length := by
  unfold outOfLevel
  rw [slots_eq_finRange]
  refine congrArg List.length (List.filter_congr fun i _ => ?_)
  cases hn : cfg.node i with
  | none => simp [hnone i hn]
  | some r =>
    cases hf : (b.stateOf i).isFaulted with
    | true => simp [hfaulted i hf]
    | false => simp [hlevel i r hn hf, required_of_node hn]

end Sys2Proof.Machine
end

section
/-! SETTLEMENT. STATUS is answered with the items of Table 11-5 and changes no state (R198). -/

namespace Sys2Proof.Machine

/-- Settles O9: the reply frame item by item, the out-of-level count slot by slot over the node states, and the codes of
Table 11-8. -/
theorem statusTellsTheState : Obligations.StatusTellsTheState := by
  unfold Obligations.StatusTellsTheState
  refine ⟨?reply, ?count, rfl, rfl, rfl, rfl⟩
  case reply =>
    intro s hs
    rw [exec_status hs, statusContents, byte1_stepHoldCode]
    cases s.board.record with
    | none => rfl
    | some r => rfl
  case count =>
    intro cfg b
    refine outOfLevel_eq_length_filter ?_ ?_ ?_
    · intro i hnone
      simp only [hnone]
    · intro i hfaulted
      obtain ⟨k, hk⟩ := isFaulted_iff.mp hfaulted
      cases hn : cfg.node i with
      | none => rfl
      | some r => simp only [hk]
    · intro i r hsome hup
      simp only [hsome]
      cases hst : b.stateOf i with
      | ramping | settling | good => exact (Bool.true_bne _).symm
      | off | queued | stopping | discharging => exact (Bool.false_bne _).symm
      | pending on => rfl
      | faulted k => simp [hst, NodeState.isFaulted] at hup

end Sys2Proof.Machine
end

section
/-! SUPPORT. What the events of the part are made of: moves of the node switch, which change slots, lines and the budget
in use, and moves of the engine, which change none of these. Every operation of the switch, the fault handler, the engine
and the arbiter is a run of such moves, so a law of boards needs one case per move. -/

namespace Sys2Proof.Machine

/-! ### Moves of the node switch -/

/-- A slot keeps its node state and its charge, and what it holds beside them still fits the state (R54, R78). -/
def Node.Remarked (n m : Node) : Prop := n.sameAccount m ∧ (NodeInv n → NodeInv m)

theorem Node.Remarked.refl (n : Node) : n.Remarked n := ⟨⟨rfl, rfl⟩, id⟩

/-- One move of the node switch: a change of node state, a change of marks and counters, or the charge of a grant. -/
inductive SwitchMove (e : Env) : Board → Board → Prop
  | enter {b : Board} (i : Slot) (st : NodeState) (dl : Option Deadline)
      (timed : dl.map Deadline.kind = st.deadlineKind) (bound : e.cfg.node i = none → st.deadlineKind = none) :
      SwitchMove e b (enter e.cfg b i st dl)
  | remark {b t : Board} (frame : t = { b with nodes := t.nodes }) (kept : ∀ i, (b.node i).Remarked (t.node i)) :
      SwitchMove e b t
  | grant {b : Board} (i : Slot) (queued : b.stateOf i = .queued) : SwitchMove e b (grantCharge e b i)

/-- A move of the switch leaves every field of the engine. -/
theorem SwitchMove.frame {e : Env} {b t : Board} (h : SwitchMove e b t) :
    t = { b with nodes := t.nodes, outs := t.outs, inUse := t.inUse, pointer := t.pointer } := by
  cases h with
  | enter => rfl
  | remark frame => rw [frame]
  | grant i =>
    unfold grantCharge toRamping
    split <;> rfl

/-! ### Moves of the engine -/

/-- The fields that the start of a transition sets (R9 to R12). -/
def startFields (e : Env) (b : Board) (kind : Kind) (target : Platform) (origin : Origin) (wake : Option SourceId)
    (dwell : Option Nat) (empty : Bool) : Board :=
  { b with
    emptyChange := empty
    phase := .lowering
    record := some ⟨kind, b.platform, target, none, some origin, none, wake, none, none, [], 0⟩
    startedAt := e.now
    held := false
    issue := []
    blockTest := false
    stack := []
    reversible := kind.isDownward && origin != Origin.recovery
    requestedDwell := dwell
    acRestore := b.acRestore && kind != Kind.up
    watchdog := if b.platform = Platform.working ∧ kind ≠ Kind.relevel then .disarmed else b.watchdog
    dwell := if b.platform = Platform.doze ∧ kind ≠ Kind.relevel then .none else b.dwell }

/-- The fields that the begin of an emergency off sets (R154). -/
def drainFields (e : Env) (b : Board) (cause : Cause) (fault : Option (Slot × FaultKind)) : Board :=
  { b with
    phase := .draining
    record := some (emergencyRecord b fault)
    startedAt := if b.record.isNone then e.now else b.startedAt
    held := false
    issue := []
    emptyChange := false
    blockTest := false
    stack := []
    reversible := false
    requestedDwell := none
    followOn := none
    wakes := []
    cause := some cause
    thermalMark := cause == .thermal
    acRestore := false
    dwell := .none
    watchdog := .disarmed
    recovery := false }

/-- The fields that the begin of REVERSING sets (R132). -/
def reverseFields (b : Board) : Board :=
  { b with phase := .reversing, issue := [], emptyChange := false, blockTest := false, held := false }

/-- A kind and a to-state that the engine may start: a row of the table of kinds, or what a waiting follow-on names. -/
def Board.mayBegin (b : Board) (kind : Kind) (target : Platform) : Prop :=
  kindFits kind b.platform target = true
    ∨ ((b.followOn = some .acRestoreUp ∨ b.followOn = some .recoveryUp) ∧ kind = .up ∧ target = .working)
    ∨ (b.followOn = some .recoveryDrop ∧ kind = .drop ∧ target = .off)

/-- One move of the engine, the wake list, the fault handler or the long timers. -/
inductive EngineMove (e : Env) : Board → Board → Prop
  | post {b : Board} (n : Notice) : EngineMove e b (b.post n)
  | blame {b : Board} (i : Slot) (k : FaultKind) (replaces : Bool) :
      EngineMove e b { b with record := recordFault b i k replaces }
  | note {b : Board} (test empty : Bool) : EngineMove e b { b with blockTest := test, emptyChange := empty }
  | list {b : Board} (act : ActKind) (l : List Slot) (moving : b.phase.inTransition = true) :
      EngineMove e b (enlist b act l)
  | unlist {b : Board} (issue : List Action) (held : Bool) (sub : issue.Sublist b.issue)
      (still : held = true → b.held = true ∧ issue ≠ []) : EngineMove e b { b with issue := issue, held := held }
  | hold {b : Board} (flag : b.stepHold = true) (some : b.issue ≠ []) : EngineMove e b { b with held := true }
  | spoil {b : Board} (keep : Bool) : EngineMove e b { b with reversible := b.reversible && keep }
  | push {b : Board} (i : Slot) (act : ActKind) (moving : b.phase.inTransition = true ∨ b.held = true) :
      EngineMove e b (pushEntry b i act)
  | pop {b : Board} (stack : List Action) (sub : stack.Sublist b.stack) : EngineMove e b { b with stack := stack }
  | raise {b : Board} (lowering : b.phase = .lowering) : EngineMove e b { b with phase := .raising }
  | reverse {b : Board} (moving : b.phase.inTransition = true) : EngineMove e b (reverseFields b)
  | drain {b : Board} (cause : Cause) (fault : Option (Slot × FaultKind)) : EngineMove e b (drainFields e b cause fault)
  | start {b : Board} (kind : Kind) (target : Platform) (origin : Origin) (wake : Option SourceId) (dwell : Option Nat)
      (empty : Bool) (idle : b.phase = .idle) (configured : e.unconfigured = false) (fits : b.mayBegin kind target)
      (open_ : b.lockout ≠ .none → kind ≠ .up) (first : origin = .start → target = .off)
      (dwells : ∀ m, dwell = some m → 1 ≤ m ∧ m ≤ 1440 ∧ kind = .dozeIn) :
      EngineMove e b (startFields e b kind target origin wake dwell empty)
  | giveUp {b : Board} (unrecorded : b.record = none) : EngineMove e b { returnToIdle b with nodes := b.nodes }
  | complete {b : Board} (raising : b.phase = .raising) (r : Record) (recorded : b.record = some r) :
      EngineMove e b { complete e b with nodes := b.nodes }
  | undone {b : Board} (reversing : b.phase = .reversing) (r : Record) (recorded : b.record = some r) :
      EngineMove e b { endReversing e b with nodes := b.nodes }
  | drained {b : Board} (draining : b.phase = .draining) (r : Record) (recorded : b.record = some r) :
      EngineMove e b { endEmergency e b with nodes := b.nodes }
  | lock {b : Board} (idle : b.phase = .idle) (off : b.platform = .off) : EngineMove e b (setLockout b .resume)
  | unlock {b : Board} : EngineMove e b { b with lockout := .none, counter := 0 }
  | claim {b : Board} (follow : Option FollowOn) (recovery : Bool) (wakes : List SourceId) (ac : Bool)
      (lapses : follow = b.followOn ∨ follow = none) (sub : wakes.Sublist b.wakes)
      (cleared : ac = true → b.acRestore = true) :
      EngineMove e b { b with followOn := follow, recovery := recovery, wakes := wakes, acRestore := ac }
  | restore {b : Board} (ac : Bool) (idle : b.phase = .idle) (off : b.platform = .off) :
      EngineMove e b { b with acRestore := ac }
  | join {b : Board} (id : SourceId) : EngineMove e b { b with wakes := joinList b.wakes id }
  | wake {b : Board} (r : Record) (id : SourceId) (recorded : b.record = some r) :
      EngineMove e b { b with record := some { r with wake := some id } }
  | thermal {b : Board} (draining : b.phase = .draining) : EngineMove e b { b with thermalMark := true }
  | dwelt {b : Board} (m t : Nat) (running : b.dwell = .running m t) : EngineMove e b { b with dwell := .expired }
  | disarm {b : Board} (counter : Nat) (recovery : Bool) (bounded : counter ≤ 3) :
      EngineMove e b { b with watchdog := .disarmed, counter := counter, recovery := recovery }
  | warn {b : Board} (deadline at_ : Nat) (warned : Bool) (kind : Kind) (outcome : Ended)
      (armed : b.watchdog = .armed deadline at_ warned kind outcome) :
      EngineMove e b { b with watchdog := .armed deadline at_ true kind outcome }

/-- A move of the engine leaves slots, lines and the budget in use. -/
theorem EngineMove.slots_eq {e : Env} {b t : Board} (h : EngineMove e b t) :
    t.nodes = b.nodes ∧ t.outs = b.outs ∧ t.inUse = b.inUse := by
  cases h with
  | complete _ r hr => simp only [Machine.complete, hr]; exact ⟨trivial, rfl, rfl⟩
  | undone _ r hr => simp only [endReversing, hr]; exact ⟨trivial, rfl, rfl⟩
  | drained _ r hr => simp only [endEmergency, hr]; split <;> exact ⟨trivial, rfl, rfl⟩
  | _ => exact ⟨rfl, rfl, rfl⟩

/-! ### Runs of moves -/

/-- One move. -/
inductive Move (e : Env) (b t : Board) : Prop
  | switch (h : SwitchMove e b t)
  | engine (h : EngineMove e b t)

/-- A run of moves. -/
def Moves (e : Env) : Board → Board → Prop := Relation.ReflTransGen (Move e)

section
variable {e : Env} {b t u : Board}

theorem Moves.refl (b : Board) : Moves e b b := Relation.ReflTransGen.refl

theorem Moves.trans (h : Moves e b t) (k : Moves e t u) : Moves e b u := Relation.ReflTransGen.trans h k

theorem Moves.switch (h : Moves e b t) (k : SwitchMove e t u) : Moves e b u := h.tail (.switch k)

theorem Moves.engine (h : Moves e b t) (k : EngineMove e t u) : Moves e b u := h.tail (.engine k)

theorem EngineMove.moves (h : EngineMove e b t) : Moves e b t := (Moves.refl b).engine h

theorem SwitchMove.moves (h : SwitchMove e b t) : Moves e b t := (Moves.refl b).switch h

/-- What every move keeps, a run of moves keeps. -/
theorem Moves.keep {P : Board → Prop} (hm : ∀ b t, Move e b t → P b → P t) (h : Moves e b t) (hb : P b) : P t := by
  unfold Moves at h
  induction h with
  | refl => exact hb
  | tail _ k ih => exact hm _ _ k ih

/-- A loop of runs is a run. -/
theorem moves_foldl {α : Type} {f : Board → α → Board} (hf : ∀ b a, Moves e b (f b a)) (l : List α) (b : Board) :
    Moves e b (l.foldl f b) := by
  induction l generalizing b with
  | nil => exact Moves.refl b
  | cons a l ih => exact (hf b a).trans (ih _)

/-- A slot whose context fits its state in the new marks too. -/
theorem moves_updNode (i : Slot) {f : Node → Node} (hf : (b.node i).Remarked (f (b.node i))) :
    Moves e b (b.updNode i f) := by
  refine SwitchMove.moves (.remark rfl fun j => ?_)
  by_cases hj : j = i
  · subst hj; rwa [node_updNode_self]
  · rw [node_updNode_ne _ _ _ _ hj]; exact .refl _

theorem moves_map {f : Node → Node} (hf : ∀ n : Node, n.Remarked (f n)) :
    Moves e b { b with nodes := b.nodes.map f } :=
  SwitchMove.moves (.remark rfl fun i => by rw [node_map]; exact hf _)

theorem moves_ofFn {g : Slot → Node} (hg : ∀ i, (b.node i).Remarked (g i)) :
    Moves e b { b with nodes := Vector.ofFn g } :=
  SwitchMove.moves (.remark rfl fun i => by rw [node_ofFn]; exact hg i)

/-- A change to a node state that has no deadline. -/
theorem moves_enter_none (i : Slot) {st : NodeState} (h : st.deadlineKind = none) :
    Moves e b (enter e.cfg b i st none) := SwitchMove.moves (.enter i st none h.symm fun _ => h)

/-! ### The node switch -/

theorem moves_fall (i : Slot) : Moves e b (fall e b i) := by
  unfold fall
  split
  · exact Moves.refl b
  · rename_i r hr
    refine SwitchMove.moves (.enter i _ _ ?_ fun hn => absurd hn (by simp [hr]))
    split <;> rfl

theorem moves_toSettling (i : Slot) : Moves e b (toSettling e b i) := by
  unfold toSettling
  split
  · exact Moves.refl b
  · rename_i r hr
    split
    · exact moves_enter_none i rfl
    · exact SwitchMove.moves (.enter i _ _ rfl fun hn => absurd hn (by simp [hr]))

theorem moves_toRamping (i : Slot) : Moves e b (toRamping e b i) := by
  unfold toRamping
  split
  · exact Moves.refl b
  · rename_i r hr
    exact SwitchMove.moves (.enter i _ _ rfl fun hn => absurd hn (by simp [hr]))

/-- A fault report: the change of node state, the record's fault field, the test it makes due, the change set, and the
notice (R75, R148, R18). -/
theorem moves_reportFault (i : Slot) (k : FaultKind) (c : Consequence) : Moves e b (reportFault e b i k c) := by
  have faulted : Moves e b (enter e.cfg b i (.faulted k) none) := moves_enter_none i rfl
  have blamed := faulted.engine (.blame i k (c != Consequence.none))
  have noted := blamed.engine (.note (b.blockTest || b.phase == Phase.lowering) b.emptyChange)
  refine (noted.trans (moves_updNode i ?_)).engine (.post _)
  exact ⟨⟨rfl, rfl⟩, id⟩

theorem moves_takeQuietEnding (i : Slot) (ending : Ending) (c : Consequence) :
    Moves e b (takeQuietEnding e b i ending c) := by
  cases ending with
  | off => exact moves_enter_none i rfl
  | blocked => exact moves_reportFault i _ c

/-- The context of a node that is not at rest off may change freely (R54). -/
theorem remarked_of_up {n m : Node} (h : n.sameAccount m) (hup : n.state.isDown = false) (hd : m.deadline = n.deadline)
    (hc : m.inCount = n.inCount ∧ m.overCount = n.overCount ∧ m.badCount = n.badCount ∧ m.offCount = n.offCount)
    (hu : m.unobserved = n.unobserved) : n.Remarked m := by
  obtain ⟨hst, hch⟩ := h
  obtain ⟨h1, h2, h3, h4⟩ := hc
  refine ⟨⟨hst, hch⟩, fun ⟨hdl, _, hcount, hun, hcharge⟩ => ?_⟩
  unfold NodeInv
  rw [hst, hd, hch, h1, h2, h3, h4, hu]
  exact ⟨hdl, fun hdown => absurd hdown (by simp [hup]), hcount, hun, hcharge⟩

theorem remarked_releasedWith {n : Node} (h : n.state.isDown = false) (ending : Ending) :
    n.Remarked (n.releasedWith ending) := remarked_of_up ⟨rfl, rfl⟩ h rfl ⟨rfl, rfl, rfl, rfl⟩ rfl

/-- A node sent down is not at rest off, whether its slot has a record or not. -/
theorem isDown_fall {i : Slot} (h : (b.stateOf i).isDown = false ∨ e.cfg.node i ≠ none) :
    ((fall e b i).stateOf i).isDown = false := by
  unfold fall
  split
  · rename_i hn; exact h.resolve_right (by simp [hn])
  · rw [stateOf_enter_self]; split <;> rfl

theorem moves_release (i : Slot) (ending : Ending) (c : Consequence) : Moves e b (release e b i ending c) := by
  have sent (h : (b.stateOf i).isDown = false) : Moves e b ((fall e b i).updNode i (·.releasedWith ending)) :=
    (moves_fall i).trans (moves_updNode i (remarked_releasedWith (isDown_fall (.inl h)) ending))
  unfold release
  split
  iterate 2 exact Moves.refl b
  iterate 2 exact moves_takeQuietEnding i ending c
  iterate 4 rename_i hst; exact sent (by rw [hst]; rfl)
  iterate 2
    rename_i hst
    exact moves_updNode i (remarked_releasedWith (show (b.stateOf i).isDown = false by rw [hst]; rfl) ending)

theorem moves_cascade (released : List Slot) (c : Consequence) : Moves e b (cascade e b released c) :=
  moves_foldl (fun _ i => moves_release i _ c) released b

theorem moves_rampFailure {i : Slot} (h : (b.stateOf i).isDown = false ∨ e.cfg.node i ≠ none) :
    Moves e b (rampFailure e b i) := by
  unfold rampFailure
  exact (moves_fall i).trans (moves_updNode i
    (remarked_of_up ⟨rfl, rfl⟩ (isDown_fall h) rfl ⟨rfl, rfl, rfl, rfl⟩ rfl))

/-! ### The begin of REVERSING, faults and emergency off -/

theorem moves_returnToStart (i : Slot) : Moves e b (returnToStart e b i) := by
  unfold returnToStart
  split
  iterate 3 exact moves_enter_none i rfl
  all_goals exact Moves.refl b

/-- What dissolving the change set leaves of a node fits its state: a context that is cleared stays cleared. -/
theorem remarked_dissolve (n : Node) (hasEntry : Bool) : n.Remarked (n.dissolve hasEntry) := by
  refine ⟨⟨rfl, rfl⟩, fun ⟨hdl, hdown, hrest⟩ => ⟨hdl, fun hd => ?_, hrest⟩⟩
  obtain ⟨hending, hfailure, hfree⟩ := hdown hd
  refine ⟨?_, by simp [Node.dissolve, hfailure], hfree⟩
  unfold Node.dissolve
  dsimp only
  split
  · rfl
  · exact hending

theorem moves_blockReleased (i : Slot) : Moves e b (blockReleased e b i) := by
  unfold blockReleased
  split
  · split
    · exact moves_reportFault i _ _
    iterate 2
      rename_i hst
      exact moves_updNode i (remarked_of_up ⟨rfl, rfl⟩ (show (b.stateOf i).isDown = false by rw [hst]; rfl) rfl
        ⟨rfl, rfl, rfl, rfl⟩ rfl)
    all_goals exact Moves.refl b
  · exact Moves.refl b

theorem moves_beginReversing (h : b.phase.inTransition = true) : Moves e b (beginReversing e b) := by
  have begun : Moves e b (reverseFields b) := (EngineMove.reverse h).moves
  have returned := begun.trans (moves_foldl (fun _ i => moves_returnToStart i) slots (reverseFields b))
  have dissolved := returned.trans (moves_ofFn (e := e) fun i => remarked_dissolve _
    (listed ((reverseFields b).forSlots (returnToStart e)).stack i))
  exact dissolved.trans (moves_foldl (fun _ i => moves_blockReleased i) slots _)

/-- The releases of an emergency off leave the engine's fields, so its record is that of the board before them. -/
theorem onlySlots_releaseAll (e : Env) (b : Board) :
    OnlySlots b (b.forSlots (fun b i => release e b i .off .emergency)) :=
  forSlots_onlySlots _ (fun b i => onlySlots_release_off e b i .emergency) b

/-- Every node that is not at rest off starts down (R154). -/
def releaseAll (e : Env) (b : Board) : Board := b.forSlots (fun b i => release e b i .off .emergency)

theorem OnlySlots.exists {b t : Board} (h : OnlySlots b t) :
    ∃ nodes outs inUse, t = { b with nodes := nodes, outs := outs, inUse := inUse } := ⟨_, _, _, h⟩

theorem emergencyOff_eq (e : Env) (b : Board) (cause : Cause) (fault : Option (Slot × FaultKind)) :
    emergencyOff e b cause fault
      = drainFields e { releaseAll e b with nodes := (releaseAll e b).nodes.map Node.clearPlan } cause fault := by
  unfold emergencyOff
  extract_lets released
  show _ = drainFields e { released with nodes := released.nodes.map Node.clearPlan } cause fault
  have frame : OnlySlots b released := onlySlots_releaseAll e b
  clear_value released
  obtain ⟨nodes, outs, inUse, rfl⟩ := frame.exists
  rfl

theorem remarked_clearPlan (n : Node) : n.Remarked n.clearPlan := ⟨⟨rfl, rfl⟩, id⟩

theorem moves_emergencyOff (cause : Cause) (fault : Option (Slot × FaultKind)) :
    Moves e b (emergencyOff e b cause fault) := by
  rw [emergencyOff_eq]
  have released : Moves e b (releaseAll e b) := moves_foldl (fun b i => moves_release i .off .emergency) slots b
  exact (released.trans (moves_map remarked_clearPlan)).engine (.drain cause fault)

/-- Only LOWERING and RAISING have an unwind for consequence (R150). -/
theorem inTransition_of_unwind {loss : Bool} (h : consequenceOf b loss = .unwind) : b.phase.inTransition = true := by
  unfold consequenceOf at h
  split at h
  · split at h
    any_goals cases h
    all_goals rename_i hp; rw [hp]; rfl
  · cases h

theorem moves_takeFault (i : Slot) (k : FaultKind) (loss : Bool) : Moves e b (takeFault e b i k loss) := by
  have reported := fun c => moves_reportFault (e := e) (b := b) i k c
  unfold takeFault
  extract_lets released c b1
  have moving : c = .unwind → b1.phase.inTransition = true := fun hc => inTransition_of_unwind (b := b) hc
  have reported : Moves e b b1 := reported c
  clear_value b1 c
  cases c with
  | none =>
    dsimp only
    split
    · exact reported
    · exact reported.trans (moves_cascade _ _)
  | unwind => exact (reported.trans (moves_beginReversing (moving rfl))).trans (moves_cascade _ _)
  | emergency => exact reported.trans (moves_emergencyOff _ _)

/-! ### Ends of ramps, discharges and deadlines -/

theorem moves_endFailureDischarge (i : Slot) : Moves e b (endFailureDischarge e b i) := by
  unfold endFailureDischarge
  extract_lets left b1
  have counted : Moves e b b1 := by
    refine moves_updNode i ⟨⟨rfl, rfl⟩, fun ⟨hdl, hdown, hrest⟩ => ⟨hdl, fun hd => ?_, hrest⟩⟩
    obtain ⟨hending, _, hfree⟩ := hdown hd
    exact ⟨hending, rfl, hfree⟩
  split_ifs
  · exact moves_takeFault i _ _
  · exact counted.trans (moves_enter_none i rfl)
  · exact counted.trans (moves_takeFault i _ _)
  · exact counted.trans (moves_enter_none i rfl)

theorem moves_takeEnding (i : Slot) : Moves e b (takeEnding e b i) := by
  unfold takeEnding
  split
  · exact moves_endFailureDischarge i
  · split
    · exact moves_enter_none i rfl
    · split
      · exact moves_reportFault i _ _
      · exact moves_takeFault i _ _

theorem moves_deliver (i : Slot) (r : Result) : Moves e b (deliver e b i r) := by
  unfold deliver
  split
  · exact moves_toSettling i
  · exact moves_takeFault i _ _
  · rename_i hst; exact moves_rampFailure (.inl (by rw [hst]; rfl))
  iterate 2 exact moves_takeFault i _ _
  iterate 2
    split
    · exact Moves.refl b
    · exact moves_takeEnding i
  · exact Moves.refl b

theorem moves_rampExpires (i : Slot) : Moves e b (rampExpires e b i) := by
  unfold rampExpires
  split
  · exact Moves.refl b
  · rename_i r hr
    split
    · exact moves_toSettling i
    iterate 2 exact moves_rampFailure (.inr (by simp [hr]))
    · exact moves_takeFault i _ _
    · exact Moves.refl b

theorem moves_settleExpires (i : Slot) : Moves e b (settleExpires e b i) := moves_enter_none i rfl

theorem moves_dischargeExpires (i : Slot) : Moves e b (dischargeExpires e b i) := by
  unfold dischargeExpires
  split
  · exact Moves.refl b
  · split
    · split
      · exact moves_takeEnding i
      · exact moves_takeFault i _ _
    iterate 2 exact moves_takeEnding i
    · split
      · exact moves_takeEnding i
      · exact moves_takeFault i _ _
    · exact moves_takeEnding i

/-! ### Arrivals -/

theorem moves_takeArrival (id : SourceId) : Moves e b (takeArrival e b id) := by
  unfold takeArrival
  split
  · exact (EngineMove.join id).moves
  · rename_i r hr
    split
    · rename_i hrev
      have joined : Moves e b { b with wakes := if r.source.isSleeping then joinList b.wakes id else b.wakes } := by
        split
        · exact (EngineMove.join id).moves
        · exact Moves.refl b
      refine (joined.engine (.wake r id hr)).trans (moves_beginReversing ?_)
      simp only [reverses, Bool.and_eq_true, Bool.or_eq_true, beq_iff_eq] at hrev
      obtain ⟨⟨⟨hphase, _⟩, _⟩, _⟩ := hrev
      rcases hphase with hp | hp <;> simp [hp, Phase.inTransition]
    · exact (EngineMove.join id).moves

theorem moves_takeIfArmed (id : SourceId) : Moves e b (takeIfArmed e b id) := by
  unfold takeIfArmed
  split
  · exact moves_takeArrival id
  · exact Moves.refl b

theorem moves_clearLockout (h : clearLockout e b = some t) : Moves e b t := by
  unfold clearLockout at h
  split at h
  · cases h; exact Moves.refl b
  · cases h; exact EngineMove.unlock.moves
  · split at h
    · cases h
    · cases h; exact EngineMove.unlock.moves

theorem moves_arrive (id : SourceId) : Moves e b (arrive e b id) := by
  unfold arrive
  split
  · split
    · exact Moves.refl b
    · rename_i b1 hb1; exact (moves_clearLockout hb1).trans (moves_takeIfArmed id)
  · exact moves_takeIfArmed id

end

end Sys2Proof.Machine
end

section
/-! SUPPORT. The engine's changes as runs of moves: the start and the ends of a transition, the claims, the issue list, the
phases, and the end of an event. -/

namespace Sys2Proof.Machine

section
variable {e : Env} {b t : Board}

/-! ### The start of a transition (R9 to R12) -/

/-- What reads none of slots, lines and the budget in use reads the same after a change of these alone. -/
theorem OnlySlots.keeps {α : Type} (h : OnlySlots b t) (f : Board → α)
    (hf : f { b with nodes := t.nodes, outs := t.outs, inUse := t.inUse } = f b) : f t = f b :=
  (congrArg f (show t = _ from h)).trans hf

theorem OnlySlots.withNodes (h : OnlySlots b t) (nodes : Vector Node 20) : OnlySlots b { t with nodes := nodes } := by
  obtain ⟨_, _, _, rfl⟩ := h.exists
  rfl

theorem moves_returnFaulted (i : Slot) : Moves e b (returnFaulted e.cfg b i) := by
  unfold returnFaulted
  split
  · exact moves_enter_none i rfl
  · exact Moves.refl b

theorem moves_takePending (i : Slot) : Moves e b (takePending e.cfg b i) := by
  unfold takePending
  split
  · exact moves_enter_none i rfl
  · exact moves_enter_none i rfl
  · exact Moves.refl b

theorem remarked_plan (n : Node) (cfg : WorkingConfig) (target : Platform) (on : List Slot) (i : Slot) :
    n.Remarked (n.plan cfg target on i) := ⟨⟨rfl, rfl⟩, id⟩

/-- The board on which a start plans: UP and DOZE_OUT have returned the FAULTED nodes to OFF (R9). -/
def returned (e : Env) (b : Board) (kind : Kind) : Board :=
  if kind.isResume then b.forSlots (returnFaulted e.cfg) else b

/-- What a start plans for a slot (R10 to R12). -/
def planned (e : Env) (b : Board) (kind : Kind) (target : Platform) (i : Slot) : Node :=
  ((returned e b kind).node i).plan e.cfg target (e.cfg.targetsOn target) i

/-- The board of a start before its members take PENDING. -/
def plannedBoard (e : Env) (b : Board) (kind : Kind) (target : Platform) : Board :=
  { returned e b kind with nodes := Vector.ofFn fun i => planned e b kind target i }

/-- The change set is empty. -/
def emptyPlan (e : Env) (b : Board) (kind : Kind) (target : Platform) : Bool :=
  slots.all fun i => (planned e b kind target i).member.isNone

theorem onlySlots_returned (e : Env) (b : Board) (kind : Kind) : OnlySlots b (returned e b kind) := by
  unfold returned
  split
  · exact forSlots_onlySlots _ (onlySlots_returnFaulted e.cfg) b
  · exact OnlySlots.refl b

theorem moves_returned (kind : Kind) : Moves e b (returned e b kind) := by
  unfold returned
  split
  · exact moves_foldl (fun _ i => moves_returnFaulted i) slots b
  · exact Moves.refl b

theorem onlySlots_plannedBoard (e : Env) (b : Board) (kind : Kind) (target : Platform) :
    OnlySlots b (plannedBoard e b kind target) := (onlySlots_returned e b kind).withNodes _

/-- A start: the plan, the fields, the members that take PENDING. -/
theorem start_eq (e : Env) (b : Board) (kind : Kind) (target : Platform) (origin : Origin) (wake : Option SourceId)
    (dwell : Option Nat) : start e b kind target origin wake dwell
      = (startFields e (plannedBoard e b kind target) kind target origin wake dwell
          (emptyPlan e b kind target)).forSlots (takePending e.cfg) := by
  have frame := onlySlots_returned e b kind
  have hp : (returned e b kind).platform = b.platform := frame.keeps Board.platform rfl
  have ha : (returned e b kind).acRestore = b.acRestore := frame.keeps Board.acRestore rfl
  have hw : (returned e b kind).watchdog = b.watchdog := frame.keeps Board.watchdog rfl
  have hd : (returned e b kind).dwell = b.dwell := frame.keeps Board.dwell rfl
  unfold returned at hp ha hw hd
  simp only [start, startFields, plannedBoard, planned, returned, emptyPlan, hp, ha, hw, hd]

/-- A start that the engine may make is a run of moves. -/
theorem moves_start {kind : Kind} {target : Platform} {origin : Origin} {dwell : Option Nat} (wake : Option SourceId)
    (idle : b.phase = .idle) (configured : e.unconfigured = false) (fits : b.mayBegin kind target)
    (unlocked : b.lockout ≠ .none → kind ≠ .up) (first : origin = .start → target = .off)
    (dwells : ∀ m, dwell = some m → 1 ≤ m ∧ m ≤ 1440 ∧ kind = .dozeIn) :
    Moves e b (start e b kind target origin wake dwell) := by
  have frame := onlySlots_plannedBoard e b kind target
  have plan : Moves e b (plannedBoard e b kind target) :=
    (moves_returned kind).trans (moves_ofFn fun i => remarked_plan _ _ _ _ _)
  rw [start_eq]
  refine (plan.engine (.start kind target origin wake dwell _ ?_ configured ?_ ?_ first dwells)).trans
    (moves_foldl (fun _ i => moves_takePending i) slots _)
  · exact (frame.keeps Board.phase rfl).trans idle
  · have hp : (plannedBoard e b kind target).platform = b.platform := frame.keeps Board.platform rfl
    have hf : (plannedBoard e b kind target).followOn = b.followOn := frame.keeps Board.followOn rfl
    unfold Board.mayBegin at fits ⊢
    rwa [hp, hf]
  · have hl : (plannedBoard e b kind target).lockout = b.lockout := frame.keeps Board.lockout rfl
    rwa [hl]

/-! ### The ends of a transition -/

theorem moves_returnToIdle (h : b.record = none) : Moves e b (returnToIdle b) :=
  (EngineMove.giveUp h).moves.trans (moves_map remarked_clearPlan)

theorem moves_complete (h : b.phase = .raising) : Moves e b (complete e b) := by
  cases hr : b.record with
  | none =>
    have : complete e b = returnToIdle b := by simp only [complete, hr]
    rw [this]
    exact moves_returnToIdle hr
  | some r =>
    have : complete e b = { complete e b with nodes := b.nodes.map Node.clearPlan } := by
      simp only [complete, hr, closeTransition, returnToIdle]
    rw [this]
    exact (EngineMove.complete h r hr).moves.trans (moves_map remarked_clearPlan)

theorem moves_endReversing (h : b.phase = .reversing) : Moves e b (endReversing e b) := by
  cases hr : b.record with
  | none =>
    have : endReversing e b = returnToIdle b := by simp only [endReversing, hr]
    rw [this]
    exact moves_returnToIdle hr
  | some r =>
    have : endReversing e b = { endReversing e b with nodes := b.nodes.map Node.clearPlan } := by
      simp only [endReversing, hr, closeTransition, returnToIdle]
    rw [this]
    exact (EngineMove.undone h r hr).moves.trans (moves_map remarked_clearPlan)

theorem endEmergency_nodes (h : b.record ≠ none) : (endEmergency e b).nodes = b.nodes.map Node.clearPlan := by
  unfold endEmergency
  split
  · rename_i hr; exact absurd hr h
  · extract_lets r1 b1
    split <;> rfl

theorem moves_endEmergency (h : b.phase = .draining) : Moves e b (endEmergency e b) := by
  cases hr : b.record with
  | none =>
    have : endEmergency e b = returnToIdle b := by simp only [endEmergency, hr]
    rw [this]
    exact moves_returnToIdle hr
  | some r =>
    have : endEmergency e b = { endEmergency e b with nodes := b.nodes.map Node.clearPlan } := by
      rw [← endEmergency_nodes (e := e) (by simp [hr])]
    rw [this]
    exact (EngineMove.drained h r hr).moves.trans (moves_map remarked_clearPlan)

theorem remarked_blockFalling (n : Node) : n.Remarked n.blockFalling := by
  unfold Node.blockFalling
  split
  · rename_i h
    rw [Bool.and_eq_true] at h
    refine remarked_of_up ⟨rfl, rfl⟩ ?_ rfl ⟨rfl, rfl, rfl, rfl⟩ rfl
    revert h
    cases n.state <;> simp [NodeState.isFalling, NodeState.isDown]
  · exact .refl n

theorem moves_endRaising (h : b.phase = .raising) : Moves e b (endRaising e b) := by
  unfold endRaising
  split
  · exact (moves_map remarked_blockFalling).trans (moves_complete h)
  · exact moves_complete h

/-! ### Waiting claims (R7, R8) -/

/-- The follow-on claim is gone. -/
def Board.clearFollow (b : Board) : Board := { b with followOn := none }

/-- A loop over the slots that does not look at the follow-on runs the same without it. -/
theorem forSlots_clearFollow {f : Board → Slot → Board} (hf : ∀ b i, f b.clearFollow i = (f b i).clearFollow)
    (b : Board) : b.clearFollow.forSlots f = (b.forSlots f).clearFollow := by
  unfold Board.forSlots
  generalize slots = l
  induction l generalizing b with
  | nil => rfl
  | cons i l ih => rw [List.foldl_cons, List.foldl_cons, hf, ih]

theorem returnFaulted_clearFollow (cfg : WorkingConfig) (b : Board) (i : Slot) :
    returnFaulted cfg b.clearFollow i = (returnFaulted cfg b i).clearFollow := by
  have hst : b.clearFollow.stateOf i = b.stateOf i := rfl
  unfold returnFaulted
  rw [hst]
  split <;> rfl

theorem takePending_clearFollow (cfg : WorkingConfig) (b : Board) (i : Slot) :
    takePending cfg b.clearFollow i = (takePending cfg b i).clearFollow := by
  have hst : b.clearFollow.stateOf i = b.stateOf i := rfl
  have hn : b.clearFollow.node i = b.node i := rfl
  unfold takePending
  rw [hst, hn]
  split <;> rfl

/-- The start of a transition does not look at the follow-on claim that calls for it. -/
theorem start_clearFollow (kind : Kind) (target : Platform) (origin : Origin) (wake : Option SourceId)
    (dwell : Option Nat) :
    start e b.clearFollow kind target origin wake dwell = (start e b kind target origin wake dwell).clearFollow := by
  unfold start
  extract_lets b1 on plan b2 b1' plan' b2'
  have hb1 : b1 = b1'.clearFollow := by
    show (if _ then _ else _) = (if _ then _ else _ : Board).clearFollow
    split
    · exact forSlots_clearFollow (returnFaulted_clearFollow e.cfg) b
    · rfl
  have hplan : plan = plan' := by
    funext i
    show (b1.node i).plan _ _ _ _ = (b1'.node i).plan _ _ _ _
    rw [hb1]
    rfl
  have hb2 : b2 = b2'.clearFollow := by
    simp only [b2, b2', hplan]
    rw [hb1]
    rfl
  rw [hb2]
  exact forSlots_clearFollow (takePending_clearFollow e.cfg) b2'

theorem mayStart_cases (h : b.mayStart e = true) : e.unconfigured = false ∧ b.lockout = .none := by
  unfold Board.mayStart at h
  simpa using h

/-- The follow-on claim is let go. -/
theorem moves_clearFollow : Moves e b b.clearFollow :=
  (EngineMove.claim none b.recovery b.wakes b.acRestore (.inr rfl) (List.Sublist.refl _) id).moves

theorem moves_takeFollowOn {f : FollowOn} (idle : b.phase = .idle) (hf : b.followOn = some f) :
    Moves e b (takeFollowOn e b f) := by
  have started : ∀ {kind target origin}, b.mayStart e = true → b.mayBegin kind target → origin ≠ Origin.start →
      Moves e b (start e b.clearFollow kind target origin none none) := by
    intro kind target origin hm fits horigin
    obtain ⟨hu, hl⟩ := mayStart_cases hm
    rw [start_clearFollow]
    exact (moves_start (dwell := none) none idle hu fits (absurd hl) (absurd · horigin) nofun).trans moves_clearFollow
  unfold takeFollowOn
  split
  · rename_i hm
    cases f with
    | acRestoreUp => exact started hm (.inr (.inl ⟨.inl hf, rfl, rfl⟩)) nofun
    | recoveryUp =>
      dsimp only
      split
      · exact started hm (.inr (.inl ⟨.inr hf, rfl, rfl⟩)) nofun
      · exact moves_clearFollow
    | recoveryDrop => exact started hm (.inr (.inr ⟨hf, rfl, rfl⟩)) nofun
  · exact moves_clearFollow

/-- A claim's start from a row of the table of kinds, with nothing of the claim left. -/
theorem moves_claimed {kind : Kind} {target : Platform} {origin : Origin} (wake : Option SourceId) (recovery : Bool)
    {wakes : List SourceId} {ac : Bool} (idle : b.phase = .idle) (may : b.mayStart e = true)
    (fits : kindFits kind b.platform target = true) (horigin : origin ≠ .start) (sub : wakes.Sublist b.wakes)
    (cleared : ac = true → b.acRestore = true) :
    Moves e b (start e { b with recovery := recovery, wakes := wakes, acRestore := ac } kind target origin wake none) := by
  obtain ⟨hu, hl⟩ := mayStart_cases may
  exact (EngineMove.claim b.followOn recovery wakes ac (.inl rfl) sub cleared).moves.trans
    (moves_start wake idle hu (.inl fits) (absurd hl) (absurd · horigin) nofun)

theorem moves_takeClaim (idle : b.phase = .idle) (ht : takeClaim e b = some t) : Moves e b t := by
  unfold takeClaim at ht
  split at ht
  · cases ht
  rename_i hm
  have may : b.mayStart e = true := by simpa using hm
  split at ht
  · rename_i hr
    simp only [recoveryHolds, Bool.and_eq_true, beq_iff_eq] at hr
    obtain rfl := Option.some.inj ht
    exact moves_claimed (wakes := b.wakes) (ac := b.acRestore) none false idle may (by rw [hr.2]; rfl) nofun
      (List.Sublist.refl _) id
  split at ht
  · rename_i id hw
    obtain rfl := Option.some.inj ht
    refine moves_claimed (wakes := b.wakes.erase id) (ac := b.acRestore) (some id) b.recovery idle may ?_ nofun
      List.erase_sublist fun h => h
    unfold wakeServed at hw
    split at hw
    · rename_i hs
      rw [Bool.and_eq_true] at hs
      revert hs
      cases b.platform <;> simp [Platform.isSleeping, kindFits]
    · cases hw
  split at ht
  · rename_i hc
    simp only [chainHolds, Bool.and_eq_true, beq_iff_eq] at hc
    obtain rfl := Option.some.inj ht
    exact moves_claimed (wakes := b.wakes) (ac := b.acRestore) none b.recovery idle may (by rw [hc.1.2]; rfl) nofun
      (List.Sublist.refl _) id
  split at ht
  · rename_i hc
    simp only [acRestoreHolds, Bool.and_eq_true, beq_iff_eq] at hc
    obtain ⟨⟨⟨_, hoff⟩, _⟩, _⟩ := hc
    obtain rfl := Option.some.inj ht
    exact moves_claimed (wakes := b.wakes) (ac := false) none b.recovery idle may (by rw [hoff]; rfl) nofun
      (List.Sublist.refl _) nofun
  · cases ht

theorem moves_idleStep (idle : b.phase = .idle) (ht : idleStep e b = some t) : Moves e b t := by
  unfold idleStep at ht
  split at ht
  · rename_i hl
    cases ht
    exact (EngineMove.lock idle hl.1).moves
  · split at ht
    · rename_i f hf
      cases ht
      exact moves_takeFollowOn idle hf
    · exact moves_takeClaim idle ht

/-! ### The issue list -/

theorem moves_issueOn {i : Slot} (act : ActKind) (h : b.phase.inTransition = true ∨ b.held = true) :
    Moves e b (issueOn e b i act) := by
  unfold issueOn
  split
  · exact Moves.refl b
  · split
    · exact moves_enter_none i rfl
    · refine (moves_toSettling i).engine (.push i act ?_)
      rw [(onlySlots_toSettling e b i)]
      exact h
    · refine (moves_toRamping i).engine (.push i act ?_)
      rw [(onlySlots_toRamping e b i)]
      exact h

theorem moves_issueOff {i : Slot} (act : ActKind) (hi : b.stateOf i = .pending true)
    (h : b.phase.inTransition = true ∨ b.held = true) : Moves e b (issueOff e b i act) := by
  unfold issueOff
  extract_lets ending
  have fallen := (moves_fall (e := e) (b := b) i).trans (moves_updNode i (f := fun n => { n with ending := ending })
    (remarked_of_up ⟨rfl, rfl⟩ (isDown_fall (.inl (by rw [hi]; rfl))) rfl ⟨rfl, rfl, rfl, rfl⟩ rfl))
  refine fallen.engine (.push i act ?_)
  rw [updNode_phase, updNode_held, onlySlots_fall e b i]
  exact h

theorem moves_issueAction (a : Action) (h : b.phase.inTransition = true ∨ b.held = true) :
    Moves e b (issueAction e b a) := by
  unfold issueAction
  split
  iterate 2
    split
    · exact moves_issueOn _ h
    · exact Moves.refl b
  iterate 2
    extract_lets b1
    have spoilt : Moves e b b1 := (EngineMove.spoil _).moves
    split
    · rename_i hi; exact spoilt.trans (moves_issueOff _ hi h)
    · exact spoilt

/-- Without the head of its issue list. -/
def Board.behead (b : Board) (rest : List Action) : Board := { b with issue := rest, held := false }

/-- Issuing an action does not look at the issue list it was taken from. -/
theorem issueAction_behead (rest : List Action) (a : Action) :
    issueAction e (b.behead rest) a = (issueAction e b a).behead rest := by
  have hst : (b.behead rest).stateOf a.slot = b.stateOf a.slot := rfl
  obtain ⟨i, act⟩ := a
  cases act with
  | on | undoOn =>
    simp only [issueAction, hst]
    split
    · unfold issueOn toSettling toRamping
      split
      · rfl
      · split
        · rfl
        · split
          · rfl
          · split <;> rfl
        · split <;> rfl
    · rfl
  | off | undoOff =>
    simp only [issueAction]
    split
    · rename_i hi
      rw [if_pos (show b.stateOf i = _ from hi)]
      unfold issueOff fall
      dsimp only
      split <;> rfl
    · rename_i hi
      rw [if_neg (show ¬b.stateOf i = _ from hi)]
      rfl

/-- Issuing an action leaves the issue list. -/
theorem issueAction_issue (a : Action) : (issueAction e b a).issue = b.issue := by
  have frame := fun c : Board => (onlySlots_fall e c a.slot).keeps Board.issue rfl
  unfold issueAction
  split
  iterate 2
    split
    · unfold issueOn
      split
      · rfl
      · split
        · rfl
        · exact (onlySlots_toSettling e b a.slot).keeps Board.issue rfl
        · exact (onlySlots_toRamping e b a.slot).keeps Board.issue rfl
    · rfl
  iterate 2
    extract_lets b1
    split
    · exact frame b1
    · rfl

theorem moves_issueHead (h : b.phase.inTransition = true ∨ b.held = true) : Moves e b (issueHead e b) := by
  unfold issueHead
  split
  · exact Moves.refl b
  · rename_i a rest hissue
    have taken := issueAction_behead (e := e) (b := b) rest a
    unfold Board.behead at taken
    rw [taken]
    refine (moves_issueAction a h).engine (.unlist rest false ?_ nofun)
    rw [issueAction_issue, hissue]
    exact List.sublist_cons_self a rest

theorem moves_issueStep (h : b.phase.inTransition = true) (ht : issueStep e b = some t) : Moves e b t := by
  unfold issueStep at ht
  split at ht
  · cases ht
  · rename_i a rest hissue
    split at ht
    · rename_i hflag
      split at ht
      · cases ht
      · cases ht
        exact (EngineMove.hold hflag (by simp [hissue])).moves.engine (.post _)
    · cases ht
      exact moves_issueHead (.inl h)

theorem moves_purgeStep (ht : purgeStep b = some t) : Moves e b t := by
  unfold purgeStep at ht
  split at ht
  · cases ht
    refine (EngineMove.unlist _ _ List.filter_sublist fun hheld => ?_).moves
    rw [Bool.and_eq_true] at hheld
    obtain ⟨hb, hhead⟩ := hheld
    refine ⟨hb, ?_⟩
    rename_i hany
    cases hissue : b.issue with
    | nil => simp [hissue] at hany
    | cons a l =>
      have hup : (b.stateOf a.slot).isDown = false := by simpa [hissue] using hhead
      simp [hup]
  · cases ht

theorem moves_eligibleStep {act : ActKind} {test : Slot → Bool} (h : b.phase.inTransition = true)
    (ht : eligibleStep b act test = some t) : Moves e b t := by
  unfold eligibleStep at ht
  split at ht
  · cases ht
  · cases ht; exact (EngineMove.list act _ h).moves

/-! ### The arbiter -/

theorem moves_grantEntry (i : Slot) (h : b.phase.inTransition = true) : Moves e b (grantEntry b i) := by
  unfold grantEntry
  split
  · split
    · exact (EngineMove.push i _ (.inl h)).moves
    · exact Moves.refl b
  all_goals
    split
    · exact Moves.refl b
    · exact (EngineMove.push i _ (.inl h)).moves

theorem moves_grantStep (h : b.phase.inTransition = true) (ht : grantStep e b = some t) : Moves e b t := by
  unfold grantStep at ht
  split at ht
  · cases ht
  · rename_i i l hq
    split at ht
    · cases ht
      have hi : b.stateOf i = .queued := stateOf_of_mem_queue (hq ▸ List.mem_cons_self)
      rw [grant_eq]
      have granted := SwitchMove.grant (e := e) i hi
      refine granted.moves.trans (moves_grantEntry i ?_)
      rw [granted.frame]
      exact h
    · cases ht

/-! ### The phases -/

theorem moves_blockStep (ht : blockStep e b = some t) : Moves e b t := by
  unfold blockStep at ht
  split at ht
  · cases ht
  · cases ht; exact moves_takeFault _ _ _

theorem moves_blockTestStep (ht : blockTestStep e b = some t) : Moves e b t := by
  unfold blockTestStep at ht
  split at ht
  · split at ht
    · rename_i hblock; cases ht; exact moves_blockStep hblock
    · cases ht; exact (EngineMove.note false b.emptyChange).moves
  · cases ht

theorem moves_levelStep (ht : levelStep e b = some t) : Moves e b t := by
  unfold levelStep at ht
  split at ht
  · cases ht
  · cases ht
    refine moves_foldl (fun b i => ?_) _ b
    split
    · exact moves_takeFault i _ _
    · exact moves_reportFault i _ _

theorem moves_rejoinStep (ht : rejoinStep e b = some t) : Moves e b t := by
  unfold rejoinStep at ht
  split at ht
  · cases ht
  · cases ht; exact moves_enter_none _ rfl

theorem moves_retryStep (ht : retryStep e b = some t) : Moves e b t := by
  unfold retryStep at ht
  split at ht
  · cases ht
  · cases ht; exact moves_enter_none _ rfl

theorem moves_undoneStep (ht : undoneStep b = some t) : Moves e b t := by
  unfold undoneStep at ht
  split at ht
  iterate 2
    rename_i i rest hs
    split at ht
    · cases ht
      exact (EngineMove.pop rest (by rw [hs]; exact List.sublist_cons_self _ rest)).moves
    · cases ht
  · cases ht

theorem moves_settleTop {a : Action} {rest : List Action} (h : b.phase.inTransition = true) (hs : b.stack = a :: rest)
    (ht : settleTop e b a rest = some t) : Moves e b t := by
  have popped : Moves e b { b with stack := rest } :=
    (EngineMove.pop rest (by rw [hs]; exact List.sublist_cons_self _ rest)).moves
  unfold settleTop at ht
  split at ht
  iterate 4 cases ht; exact popped
  · split at ht
    · cases ht; exact (moves_enter_none (e := e) a.slot rfl).engine (.list _ _ h)
    · cases ht
  · split at ht
    · cases ht; exact (moves_enter_none (e := e) a.slot rfl).engine (.list _ _ h)
    · cases ht; exact popped.trans (moves_takeFault _ _ _)
  · cases ht

theorem moves_undoStep (h : b.phase.inTransition = true) (ht : undoStep e b = some t) : Moves e b t := by
  unfold undoStep at ht
  split at ht
  · split at ht
    · cases ht
    · rename_i a rest hs; exact moves_settleTop h hs ht
  · cases ht

theorem moves_loweringStep (hp : b.phase = .lowering) (ht : loweringStep e b = some t) : Moves e b t := by
  have moving : b.phase.inTransition = true := by rw [hp]; rfl
  rcases loweringStep_cases ht with h | h | h | h | h | h | ⟨_, rfl⟩
  · exact moves_purgeStep h
  · exact moves_levelStep h
  · exact moves_rejoinStep h
  · exact moves_blockTestStep h
  · exact moves_eligibleStep moving h
  · exact moves_issueStep moving h
  · exact (EngineMove.raise hp).moves

theorem moves_raisingStep (hp : b.phase = .raising) (ht : raisingStep e b = some t) : Moves e b t := by
  have moving : b.phase.inTransition = true := by rw [hp]; rfl
  rcases raisingStep_cases ht with h | h | h | h | h | h | ⟨_, rfl⟩
  · exact moves_purgeStep h
  · exact moves_blockStep h
  · exact moves_retryStep h
  · exact moves_eligibleStep moving h
  · exact moves_issueStep moving h
  · exact moves_grantStep moving h
  · exact moves_endRaising hp

theorem moves_reversingStep (hp : b.phase = .reversing) (ht : reversingStep e b = some t) : Moves e b t := by
  have moving : b.phase.inTransition = true := by rw [hp]; rfl
  rcases reversingStep_cases ht with h | h | h | h | h | ⟨_, rfl⟩
  · exact moves_purgeStep h
  · exact moves_undoneStep h
  · exact moves_undoStep moving h
  · exact moves_issueStep moving h
  · exact moves_grantStep moving h
  · exact moves_endReversing hp

/-- Every change of the engine is a run of moves. -/
theorem moves_engineStep (ht : engineStep e b = some t) : Moves e b t := by
  unfold engineStep at ht
  split at ht
  · rename_i hp; exact moves_idleStep hp ht
  · rename_i hp; exact moves_loweringStep hp ht
  · rename_i hp; exact moves_raisingStep hp ht
  · rename_i hp; exact moves_reversingStep hp ht
  · rename_i hp
    split at ht
    · cases ht; exact moves_endEmergency hp
    · cases ht

end

/-! ### The end of an event -/

/-- The unobserved mark goes to a node in DISCHARGING alone (R89, R100). -/
theorem remarked_markUnobserved (before after : Board) (i : Slot) (n : Node) :
    n.Remarked (markUnobserved before after i n) := by
  unfold markUnobserved
  split
  · rename_i h
    exact ⟨⟨rfl, rfl⟩, fun ⟨hdl, hdown, hcount, _, hcharge⟩ => ⟨hdl, hdown, hcount, fun _ => h.1, hcharge⟩⟩
  · exact .refl n

/-- What every move keeps, and neither the order of the notices nor the end of the event's listing touches, holds at the
end of an event. -/
theorem finishBoard_keep {s : State} (s0 : State) {P : Board → Prop} (hm : ∀ b t, Move s.env b t → P b → P t)
    (horder : ∀ b q, q.Perm b.notices → P b → P { b with notices := q, listedNow := [] }) (hb : P s.board) :
    P (finishBoard s0 s) :=
  finishBoard_induct s0 s P (fun _ _ hb ht => (moves_engineStep ht).keep hm hb)
    (fun _ id hb => (moves_arrive id).keep hm hb)
    (fun _ hb => (moves_ofFn (e := s.env) fun _ => remarked_markUnobserved _ _ _ _).keep hm hb) horder hb

end Sys2Proof.Machine
end

section
/-! SUPPORT. What every command does, in few kinds of work: changes aside from the board, moves on the board, the end of
an event, a change of the working configuration, the store, part reset and the load event. A law of states needs one case
per kind of work; what only the end of an event restores is followed separately (`State.tidy`). -/

namespace Sys2Proof.Machine

/-- Nothing but the pins, the supply inputs, the monitor, the qualifiers, the panel, the link and the counter of free
values differs. -/
def Aside (s t : State) : Prop :=
  t = { s with
    free := t.free
    pins := t.pins
    inputs := t.inputs
    monitor := t.monitor
    quals := t.quals
    panel := t.panel
    ledOn := t.ledOn
    link := t.link }

/-- One piece of work of a command. -/
inductive Work : State → State → Prop
  | aside {s t : State} (frame : Aside s t) : Work s t
  | board {s : State} {b : Board} (moves : Moves s.env s.board b) : Work s { s with board := b }
  | order {s : State} (q : List NoticeEntry) (perm : q.Perm s.board.notices) :
      Work s { s with board := { s.board with notices := q, listedNow := [] } }
  | read {s : State} (f : NoticeEntry → NoticeEntry) (same : ∀ x, (f x).notice = x.notice ∧ (f x).count = x.count) :
      Work s { s with board := { s.board with notices := s.board.notices.map f } }
  | drop {s : State} (p : NoticeEntry → Bool) :
      Work s { s with board := { s.board with notices := s.board.notices.filter p } }
  | stepHold {s : State} (on : Bool) (still : on = true ∨ s.board.held = false) :
      Work s { s with board := { s.board with stepHold := on } }
  | config {s : State} (cfg : WorkingConfig) (nodes : cfg.nodes = s.cfg.nodes) : Work s { s with cfg := cfg }
  | put {s : State} (i : Slot) (rec : Option NodeRecord) (passes : putRefusal s.cfg s.board i rec = none) :
      Work s (s.putNode i (rec.map clampNode))
  | save {s : State} (job : SaveJob) (content : job.content = s.cfg) :
      Work s { s with store := ⟨.torn, some job, s.store.unconfigured⟩ }
  | saved {s : State} (job : SaveJob) (saving : s.store.saving = some job) (readsBack : Bool) :
      Work s { s with store := savedStore s.store job readsBack }
  | reset {s : State} (held : Nat) : Work s (afterPartReset held s)
  | load {s : State} (pins : Pins) : Work s (loadedState pins s)

/-- A run of work. -/
def Works : State → State → Prop := Relation.ReflTransGen Work

section
variable {s t u : State}

theorem Works.refl (s : State) : Works s s := Relation.ReflTransGen.refl

theorem Works.trans (h : Works s t) (k : Works t u) : Works s u := Relation.ReflTransGen.trans h k

theorem Works.then (h : Works s t) (k : Work t u) : Works s u := h.tail k

theorem Work.works (h : Work s t) : Works s t := (Works.refl s).tail h

/-- What every piece of work keeps, a run of work keeps. -/
theorem Works.keep {P : State → Prop} (hm : ∀ s t, Work s t → P s → P t) (h : Works s t) (hs : P s) : P t := by
  unfold Works at h
  induction h with
  | refl => exact hs
  | tail _ k ih => exact hm _ _ k ih

theorem works_aside (h : Aside s t) : Works s t := (Work.aside h).works

theorem works_withMonitor (s : State) (m : Monitor) : Works s { s with monitor := m } := works_aside rfl

theorem works_config {cfg : WorkingConfig} (h : cfg.nodes = s.cfg.nodes) : Works s { s with cfg := cfg } :=
  (Work.config cfg h).works

theorem works_board {b : Board} (h : Moves s.env s.board b) : Works s { s with board := b } := (Work.board h).works

/-- The end of an event is work: the board's moves, the order of the notices, and what is read from the board. -/
theorem works_finish (s0 s : State) : Works s (finish s0 s) := by
  have settled : Works s { s with board := finishBoard s0 s } := by
    refine finishBoard_induct s0 s (fun b => Works s { s with board := b }) ?_ ?_ ?_ ?_ (Works.refl s)
    · exact fun b t hb ht => hb.trans (works_board (s := { s with board := b }) (moves_engineStep ht))
    · exact fun b id hb => hb.trans (works_board (s := { s with board := b }) (moves_arrive id))
    · exact fun b hb => hb.trans (works_board (s := { s with board := b })
        (moves_ofFn fun _ => remarked_markUnobserved _ _ _ _))
    · exact fun b q hq hb => hb.then (.order (s := { s with board := b }) q hq)
  refine settled.then (.aside ?_)
  rfl

/-- An event whose own effect turns the board into `b` by moves. -/
theorem works_event (s0 : State) {b : Board} (h : Moves s.env s.board b) : Works s (finish s0 { s with board := b }) :=
  (works_board h).trans (works_finish s0 _)

/-! ### Samples and passes (R93, R94) -/

/-- A counted sample leaves a node's context fitting its state: nothing is counted of a node at rest off. -/
theorem remarked_count {n : Node} {t : Tick} (h : n.state.isDown = false ∨ t = .nothing) : n.Remarked (n.count t) := by
  rcases h with hup | rfl
  · have hst : (n.count t).state = n.state := (sameAccount_count n t).1
    refine ⟨sameAccount_count n t, fun ⟨hdl, _, ⟨h1, h2, h3, h4⟩, hun, hcharge⟩ => ?_⟩
    refine ⟨?_, fun hd => absurd (hst ▸ hd) (by simp [hup]), ?_, ?_, ?_⟩
    · cases t <;> exact hdl
    · cases t <;> simp [Node.count, bump, h1, h2, h3, h4]
    · cases t <;> exact hun
    · cases t <;> exact hcharge
  · exact .refl n

theorem works_takeSample {b : Board} {i : Slot} {r : NodeRecord} {t : Tick} (h : Moves s.env s.board b)
    (hup : (b.stateOf i).isDown = false ∨ t = .nothing) : Works s (s.takeSample i (countSample b i r t)) := by
  have counted : Moves s.env s.board (countSample b i r t).1 :=
    h.trans (moves_updNode i (f := fun n => n.count t) (remarked_count hup))
  unfold State.takeSample
  split
  · exact works_board counted
  · exact works_event s (counted.trans (moves_deliver i _))

/-- An analog sample has a class only in a state that is not at rest off (R93). -/
theorem isDown_of_classify {w : Window} {st : NodeState} {code : Nat} {c : SampleClass}
    (h : classify w st code = some c) : st.isDown = false := by
  cases st with
  | off | faulted k => cases h
  | _ => rfl

theorem remarked_hold (n : Node) (w : Window) (code : Nat) (c : SampleClass) : n.Remarked (n.hold w code c) :=
  ⟨⟨rfl, rfl⟩, id⟩

theorem works_sampleAnalog (s : State) (i : Slot) (r : NodeRecord) (w : Window) (code : Nat) :
    Works s (s.sampleAnalog i r w code) := by
  unfold State.sampleAnalog
  extract_lets st
  split
  · exact Works.refl s
  · rename_i c hc
    refine works_takeSample (moves_updNode i (remarked_hold _ w code c)) (.inl ?_)
    have hup : (s.board.stateOf i).isDown = false := isDown_of_classify hc
    unfold Board.stateOf at hup ⊢
    rw [node_updNode_self]
    exact hup

theorem tickOfGoodInput_of_isDown {st : NodeState} (good : Bool) (h : st.isDown = true) :
    tickOfGoodInput st good = .nothing := by
  cases st with
  | off | faulted k => rfl
  | _ => cases h

theorem tickOfAck_of_isDown {st : NodeState} (forced ackOn : Bool) (h : st.isDown = true) :
    tickOfAck st forced ackOn = .nothing := by
  cases st with
  | off | faulted k => rfl
  | _ => cases h

theorem works_sampleDigital (s : State) (i : Slot) (r : NodeRecord) (level : Level) :
    Works s (s.sampleDigital i r level) := by
  have hup : (s.board.node i).state.isDown = false ∨ (s.board.node i).state.isDown = true := by
    cases (s.board.node i).state.isDown <;> simp
  unfold State.sampleDigital
  extract_lets n
  split
  · exact works_takeSample (Moves.refl _) (hup.imp_right (tickOfGoodInput_of_isDown _))
  · exact works_takeSample (Moves.refl _) (hup.imp_right (tickOfAck_of_isDown _ _))
  all_goals exact Works.refl s

theorem works_readChannel (s : State) (m : RoundMode) (readings : Readings) (c : Fin 12) :
    Works s (s.readChannel m readings c) := by
  unfold State.readChannel
  split
  · exact Works.refl s
  · split
    · split
      · exact works_sampleAnalog s _ _ _ _
      all_goals exact Works.refl s
    · exact Works.refl s

theorem works_readInput (s : State) (m : RoundMode) (readings : Readings) (c : Fin 12) :
    Works s (s.readInput m readings c) := by
  unfold State.readInput
  split
  · exact Works.refl s
  · split
    · exact works_sampleDigital s _ _ _
    · exact Works.refl s

theorem works_pass (s : State) (m : RoundMode) (readings : Readings) : Works s (s.pass m readings) :=
  pass_induct (Works s) m readings (fun t c h => h.trans (works_readChannel t m readings c))
    (fun t c h => h.trans (works_readInput t m readings c)) s (Works.refl s)

theorem works_afterContinuousRound (s : State) (readings : Readings) : Works s (afterContinuousRound readings s) := by
  unfold afterContinuousRound
  split
  · exact (works_withMonitor s _).trans (works_pass _ .continuous readings)
  · exact Works.refl s

theorem works_afterSleepRoundBegin (s : State) : Works s (afterSleepRoundBegin s) := by
  unfold afterSleepRoundBegin
  split
  · exact works_aside rfl
  · exact Works.refl s

theorem works_afterSleepRoundPass (s : State) (readings : Readings) : Works s (afterSleepRoundPass readings s) := by
  unfold afterSleepRoundPass
  split
  · split
    · exact ((works_withMonitor s _).trans (works_pass _ .sleep readings)).trans (works_withMonitor _ _)
    · exact Works.refl s
  · exact Works.refl s

/-! ### Requests (Table 11-1) -/

/-- What the owner of a request does, the request does. -/
theorem works_request (type : Nat) (payload : List Byte) {owner : State → Answer} (h : Works s (owner s).state) :
    Works s (s.request type payload owner) := by
  unfold State.request
  split
  iterate 2 exact works_aside rfl
  split
  · exact works_aside rfl
  · unfold Answer.place
    extract_lets s1
    have placed : Works s s1 := h.then (.aside rfl)
    split
    · exact placed.trans (works_finish s s1)
    · exact placed

/-- A dwell that ENTER keeps: the check lets one through for a DOZE_IN alone, and it is cut to 1440 (R5, R6). -/
theorem keptDwell_bounds {dwell : Half} {m : Nat} (h : keptDwell dwell = some m) : dwell ≠ 0 ∧ 1 ≤ m ∧ m ≤ 1440 := by
  unfold keptDwell at h
  split at h
  · cases h
  · rename_i hd
    have hpos : dwell.toNat ≠ 0 := fun hz => hd (BitVec.eq_of_toNat_eq hz)
    obtain rfl := Option.some.inj h
    exact ⟨hd, by omega, by omega⟩

/-- An ENTER that passes its checks names a row of the table of kinds. -/
theorem kindFits_enterKind {p q : Platform} (h : ¬q.rank < p.rank) : kindFits (enterKind p q) p q = true := by
  revert h
  cases p <;> cases q <;> decide

theorem enterKind_ne_up (p q : Platform) : enterKind p q ≠ .up := by
  cases p <;> cases q <;> decide

theorem works_enterAnswer (s : State) (target : Byte) (dwell : Half) : Works s (enterAnswer target dwell s).state := by
  unfold enterAnswer
  split
  · exact Works.refl s
  · rename_i p hcheck
    by_cases hbusy : s.board.phase ≠ .idle ∨ s.store.saving.isSome = true
    · rw [enterCheck_busy hbusy] at hcheck; cases hcheck
    cases hp : platformOf target with
    | none => rw [enterCheck_noPlatform hbusy hp] at hcheck; cases hcheck
    | some q =>
      rw [enterCheck_platform dwell hbusy hp] at hcheck
      split_ifs at hcheck with hunconf _ hrank hdwell
      cases hcheck
      rw [not_or, ne_eq, Decidable.not_not] at hbusy
      refine works_board (moves_start none hbusy.1 (show s.store.unconfigured = false by simpa using hunconf) (.inl (kindFits_enterKind hrank))
        (fun _ => enterKind_ne_up _ _) nofun fun m hm => ?_)
      obtain ⟨hd, hlow, hhigh⟩ := keptDwell_bounds hm
      refine ⟨hlow, hhigh, (enterKind_eq_dozeIn _ _).mpr ?_⟩
      by_contra hne
      exact hdwell ⟨hd, hne⟩

theorem works_wakeAnswer (s : State) : Works s (wakeAnswer s).state := by
  unfold wakeAnswer
  split
  · exact Works.refl s
  · split
    · exact Works.refl s
    · exact works_board (moves_arrive linkId)

theorem works_checkinAnswer (s : State) : Works s (checkinAnswer s).state := by
  unfold checkinAnswer
  split
  · exact Works.refl s
  · exact works_board (EngineMove.disarm 0 s.board.recovery (Nat.zero_le 3)).moves

theorem works_holdAnswer (s : State) (field : Byte) : Works s (holdAnswer field s).state := by
  unfold holdAnswer
  split
  · have released : Moves s.env s.board { s.board with held := false } :=
      (EngineMove.unlist s.board.issue false (List.Sublist.refl _) nofun).moves
    exact (works_board released).then (.stepHold false (.inr rfl))
  · exact (Work.stepHold true (.inl rfl)).works
  · exact Works.refl s

theorem works_proceedAnswer (s : State) : Works s (proceedAnswer s).state := by
  unfold proceedAnswer
  split
  · rename_i hheld; exact works_board (moves_issueHead (.inr hheld))
  · exact Works.refl s

theorem works_lastAnswer (s : State) : Works s (lastAnswer s).state := by
  unfold lastAnswer
  split <;> exact Works.refl s

theorem works_nodeGetAnswer (s : State) (slot : Byte) : Works s (nodeGetAnswer slot s).state := by
  unfold nodeGetAnswer
  split <;> exact Works.refl s

theorem works_nodePutAnswer (s : State) (p : List Byte) : Works s (nodePutAnswer p s).state := by
  unfold nodePutAnswer
  split
  · exact Works.refl s
  split
  · exact Works.refl s
  split
  · split
    · exact Works.refl s
    · rename_i hput; exact (Work.put _ _ hput).works
  · exact Works.refl s

theorem works_clearFaultAnswer (s : State) (slot : Byte) : Works s (clearFaultAnswer slot s).state := by
  unfold clearFaultAnswer
  split
  · exact Works.refl s
  · split_ifs
    · exact Works.refl s
    · exact works_board (moves_enter_none (e := s.env) _ rfl)
    · exact Works.refl s

theorem works_readRailAnswer (s : State) (slot : Byte) : Works s (readRailAnswer slot s).state := by
  unfold readRailAnswer
  split
  · exact Works.refl s
  · split <;> exact Works.refl s

theorem works_sourceGetAnswer (s : State) (id : Byte) : Works s (sourceGetAnswer id s).state := by
  unfold sourceGetAnswer
  split <;> exact Works.refl s

/-- A SOURCE_PUT writes qualifiers and source records alone (R127, R128). -/
theorem works_putSource {id : SourceId} {p : SourcePayload} {clamped : Bool} (h : putSource s id p = some (t, clamped)) :
    Works s t := by
  unfold putSource at h
  split_ifs at h
  all_goals
    obtain ⟨r, _, hr⟩ := Option.map_eq_some_iff.mp h
    obtain ⟨rfl, -⟩ := Prod.mk.inj hr
  · unfold State.putLine
    extract_lets s1
    have asked : Works s s1 := by
      show Works s (if _ then _ else _)
      split
      · exact works_aside rfl
      · exact Works.refl s
    have hcfg : s1.cfg = s.cfg := by
      show (if _ then _ else _ : State).cfg = s.cfg
      split <;> rfl
    exact asked.then (.config _ (by rw [hcfg]))
  iterate 2 exact works_config rfl

theorem works_sourcePutAnswer (s : State) (p : SourcePayload) : Works s (sourcePutAnswer p s).state := by
  unfold sourcePutAnswer
  split
  · exact Works.refl s
  · split
    · exact Works.refl s
    · rename_i s1 clamped hput
      obtain ⟨id, _, hid⟩ := Option.bind_eq_some_iff.mp hput
      exact works_putSource hid

theorem works_settingsPutAnswer (s : State) (p : SettingsPayload) : Works s (settingsPutAnswer p s).state := by
  unfold settingsPutAnswer
  split
  · exact Works.refl s
  · split
    · exact Works.refl s
    · exact works_config rfl

theorem works_saveAnswer (s : State) : Works s (saveAnswer s).state := by
  unfold saveAnswer
  split
  · exact Works.refl s
  · exact (Work.save ⟨s.now, s.cfg⟩ rfl).works

theorem works_afterRequest (s : State) (c : Instr) : Works s (afterRequest c s) := by
  cases c with
  | status => exact works_request 0x01 [] (owner := fun s => .tell s (statusContents s)) (Works.refl s)
  | enter target dwell => exact works_request _ _ (works_enterAnswer s target dwell)
  | wake => exact works_request _ _ (works_wakeAnswer s)
  | checkin => exact works_request _ _ (works_checkinAnswer s)
  | hold field => exact works_request _ _ (works_holdAnswer s field)
  | proceed => exact works_request _ _ (works_proceedAnswer s)
  | last => exact works_request _ _ (works_lastAnswer s)
  | nodeGet slot => exact works_request _ _ (works_nodeGetAnswer s slot)
  | nodePut payload => exact works_request _ _ (works_nodePutAnswer s payload)
  | clearFault slot => exact works_request _ _ (works_clearFaultAnswer s slot)
  | readRail slot => exact works_request _ _ (works_readRailAnswer s slot)
  | sourceGet id => exact works_request _ _ (works_sourceGetAnswer s id)
  | sourcePut p => exact works_request _ _ (works_sourcePutAnswer s p)
  | settingsGet => exact works_request 0x1C [] (owner := fun s => .tell s (settingsBytes s.cfg.settings)) (Works.refl s)
  | settingsPut p => exact works_request _ _ (works_settingsPutAnswer s p)
  | save => exact works_request _ _ (works_saveAnswer s)
  | _ => exact Works.refl s

/-! ### The other bus transactions, reset and the load event -/

theorem works_afterWrite (s : State) (bytes : List Byte) : Works s (afterWrite bytes s) := by
  unfold afterWrite
  split
  iterate 2 exact works_aside rfl
  split
  iterate 4 exact works_aside rfl
  split
  · exact works_aside rfl
  · rename_i c _; exact (works_afterRequest s c).then (.aside rfl)

theorem works_beginRead (s : State) : Works s s.beginRead := by
  unfold State.beginRead
  extract_lets r q
  have hq : (∃ k, q = s.board.notices.map (clearMerged k)) ∨ q = s.board.notices := by
    cases h : r.source with
    | notice k => exact .inl ⟨k, by simp only [q, h]⟩
    | reply | empty => exact .inr (by simp only [q, h])
  have marked : Works s { s with board := { s.board with notices := q } } := by
    rcases hq with ⟨k, hq⟩ | hq
    · rw [hq]
      refine (Work.read (clearMerged k) fun x => ?_).works
      unfold clearMerged
      split <;> exact ⟨rfl, rfl⟩
    · rw [hq]
      exact Works.refl s
  exact marked.then (.aside rfl)

theorem works_removeFrame (s : State) (src : FrameSource) : Works s (s.removeFrame src) := by
  unfold State.removeFrame
  split
  · exact works_aside rfl
  · exact (Work.drop _).works
  · exact Works.refl s

theorem works_endRead (s : State) (clocked : Nat) : Works s (s.endRead clocked) := by
  unfold State.endRead
  split
  · exact Works.refl s
  · rename_i r _
    extract_lets s1
    have removed : Works s s1 := by
      show Works s (if _ then _ else _)
      split
      · exact works_removeFrame s _
      · exact Works.refl s
    exact removed.then (.aside rfl)

theorem works_afterReadTransaction (s : State) (op : ReadOp) : Works s (afterReadTransaction op s) := by
  unfold afterReadTransaction
  split
  · cases op with
    | first => exact works_beginRead s
    | last n => exact works_endRead s n
    | whole n => exact (works_beginRead s).trans (works_endRead _ n)
  · exact works_aside rfl

theorem works_startUp (h : s.board.phase = .idle) (hoff : s.board.platform = .off) : Works s (startUp s) := by
  unfold startUp
  split
  · rename_i hm
    obtain ⟨hu, hl⟩ := mayStart_cases hm
    have marked : Moves s.env s.board { s.board with acRestore := s.cfg.settings.acPolicy == .powerOn } :=
      (EngineMove.restore _ h hoff).moves
    exact works_board (marked.trans (moves_start none h hu (.inl (by rw [hoff]; rfl)) (absurd hl) (fun _ => rfl) nofun))
  · exact Works.refl s

theorem works_afterLoadEvent (s : State) (pins : Pins) : Works s (afterLoadEvent pins s) := by
  unfold afterLoadEvent
  split
  · exact Works.refl s
  · split
    · have loaded : Works s (loadedState pins s) := (Work.load pins).works
      exact (loaded.trans (works_startUp rfl rfl)).trans (works_finish _ _)
    · exact Works.refl s

theorem works_afterSaveEnd (s : State) (readsBack : Bool) : Works s (afterSaveEnd readsBack s) := by
  unfold afterSaveEnd
  split
  · exact Works.refl s
  · rename_i job hjob
    split
    · have saved : Works s { s with store := savedStore s.store job readsBack } := (Work.saved job hjob readsBack).works
      exact saved.trans (works_event s (EngineMove.post _).moves)
    · exact Works.refl s

/-! ### Timers, wake lines, the panel and the supply inputs -/

theorem works_expire (s : State) (i : Slot) (k : DeadlineKind) {f : Env → Board → Slot → Board}
    (hf : Moves s.env s.board (f s.env s.board i)) : Works s (s.expire i k f) := by
  unfold State.expire
  split
  · exact works_event s hf
  · exact Works.refl s

theorem works_afterDwellExpiry (s : State) : Works s (afterDwellExpiry s) := by
  unfold afterDwellExpiry
  split
  · rename_i m t hd
    split
    · exact works_event s (EngineMove.dwelt m t hd).moves
    · exact Works.refl s
  all_goals exact Works.refl s

theorem works_afterWatchdogWarn (s : State) : Works s (afterWatchdogWarn s) := by
  unfold afterWatchdogWarn
  split
  · rename_i deadline at_ kind outcome hw
    split
    · have warned := (EngineMove.warn (e := s.env) deadline at_ false kind outcome hw).moves
      exact (works_board (warned.engine (.post _))).then (.aside rfl)
    · exact Works.refl s
  all_goals exact Works.refl s

theorem works_afterWatchdogExpiry (s : State) : Works s (afterWatchdogExpiry s) := by
  unfold afterWatchdogExpiry
  split
  · split
    · exact works_event s (EngineMove.disarm _ _ (Nat.min_le_left 3 _)).moves
    · exact Works.refl s
  · exact Works.refl s

theorem works_qualify (s : State) (l : WakeLine) (q : Qualified) : Works s (s.qualify l q) := by
  have written : Works s (s.setQual l q.qual) := works_aside rfl
  unfold State.qualify
  extract_lets s1
  split
  · exact written.trans (works_event (s := s1) s (moves_arrive (e := s.env) (lineId l)))
  · exact written

theorem works_afterWakeLineChange (s : State) (l : WakeLine) (level : Level) :
    Works s (afterWakeLineChange l level s) := by
  have moved : Works s (s.setWake l level) := works_aside rfl
  unfold afterWakeLineChange
  split
  · exact moved
  · extract_lets r s1
    split <;> exact moved.trans (works_qualify _ l _)

theorem works_afterWakeDebounceExpiry (s : State) (l : WakeLine) : Works s (afterWakeDebounceExpiry l s) := by
  unfold afterWakeDebounceExpiry
  extract_lets q
  split
  · exact works_qualify s l _
  · exact Works.refl s

theorem works_afterCountWindowExpiry (s : State) (l : WakeLine) : Works s (afterCountWindowExpiry l s) := by
  unfold afterCountWindowExpiry
  extract_lets q
  split
  · exact works_aside rfl
  · exact Works.refl s

theorem works_afterPwrbtnChange (s : State) (level : Level) : Works s (afterPwrbtnChange level s) := by
  unfold afterPwrbtnChange
  split
  · exact works_aside rfl
  · split <;> exact works_aside rfl

/-- An event of the panel that moves the board. -/
theorem works_panelEvent (panel : Panel) {b : Board} (h : Moves s.env s.board b) :
    Works s (finish s { s with panel := panel, board := b }) := by
  have moved : Works s { s with panel := panel } := works_aside rfl
  exact (moved.trans (works_board (s := { s with panel := panel }) h)).trans (works_finish s _)

theorem works_pressed (s : State) : Works s s.pressed := works_panelEvent _ (moves_arrive buttonId)

theorem works_released (s : State) : Works s s.released := by
  unfold State.released
  extract_lets panel
  split
  · exact works_aside rfl
  · rename_i p _
    split
    · exact (works_board (EngineMove.post (pressNotice p s.now)).moves).then (.aside rfl)
    · exact works_aside rfl

theorem works_afterButtonDebounceExpiry (s : State) : Works s (afterButtonDebounceExpiry s) := by
  unfold afterButtonDebounceExpiry
  split
  · split
    · exact works_pressed s
    · exact works_released s
    · exact works_aside rfl
    all_goals exact Works.refl s
  · exact Works.refl s

theorem moves_longPress {e : Env} {b : Board} : Moves e b (longPress e b) := by
  unfold longPress
  split
  · exact Moves.refl b
  · exact moves_emergencyOff _ _

theorem works_afterHoldTimerExpiry (s : State) : Works s (afterHoldTimerExpiry s) := by
  unfold afterHoldTimerExpiry
  split
  · exact works_panelEvent _ moves_longPress
  · exact Works.refl s

theorem works_afterSegmentExpiry (s : State) : Works s (afterSegmentExpiry s) := by
  unfold afterSegmentExpiry
  split
  · exact works_aside rfl
  · exact Works.refl s

theorem works_afterInputPinChange (s : State) (i : SupplyInput) (level : Level) :
    Works s (afterInputPinChange i level s) := by
  unfold afterInputPinChange
  split <;> exact works_aside rfl

theorem moves_acokFalls {e : Env} {b : Board} : Moves e b (acokFalls e b) := by
  unfold acokFalls
  extract_lets b1
  have posted : Moves e b b1 := (EngineMove.post _).moves
  split
  · exact posted.trans (moves_emergencyOff _ _)
  · exact posted

theorem moves_hotshutAsserted {e : Env} {b : Board} : Moves e b (hotshutAsserted e b) := by
  unfold hotshutAsserted
  split
  · rename_i hp; exact (EngineMove.thermal hp).moves
  · exact moves_emergencyOff _ _

theorem moves_supplyChange {e : Env} {b t : Board} {i : SupplyInput} {level : Level}
    (ht : supplyChange e b i level = some t) : Moves e b t := by
  unfold supplyChange at ht
  split at ht
  · obtain rfl := Option.some.inj ht; exact moves_acokFalls
  · obtain rfl := Option.some.inj ht; exact Moves.refl b
  · obtain rfl := Option.some.inj ht; exact moves_hotshutAsserted
  · cases ht

theorem works_afterInputFilterExpiry (s : State) (i : SupplyInput) : Works s (afterInputFilterExpiry i s) := by
  unfold afterInputFilterExpiry
  split
  · extract_lets level s1
    have taken : Works s s1 := works_aside rfl
    split
    · exact taken
    · rename_i b hb
      exact taken.trans (works_event (s := s1) s (moves_supplyChange hb))
  · exact Works.refl s

/-! ### Every command -/

/-- Every command answers a next state, and is a run of work. -/
theorem works_exec (s : State) (c : Instr) : ∃ t, exec c s = .next t ∧ Works s t := by
  have request := works_afterRequest s c
  cases c with
  | invalidRequest bytes | ignoredWrite bytes => exact ⟨_, rfl, works_afterWrite s bytes⟩
  | busProbe address => exact ⟨_, rfl, works_aside rfl⟩
  | readTransaction op => exact ⟨_, rfl, works_afterReadTransaction s op⟩
  | partReset held => exact ⟨_, rfl, (Work.reset held).works⟩
  | loadEvent pins => exact ⟨_, rfl, works_afterLoadEvent s pins⟩
  | saveEnd readsBack => exact ⟨_, rfl, works_afterSaveEnd s readsBack⟩
  | continuousRound readings => exact ⟨_, rfl, works_afterContinuousRound s readings⟩
  | sleepRoundBegin => exact ⟨_, rfl, works_afterSleepRoundBegin s⟩
  | sleepRoundPass readings => exact ⟨_, rfl, works_afterSleepRoundPass s readings⟩
  | rampDeadlineExpiry i => exact ⟨_, rfl, works_expire s i .ramp (moves_rampExpires i)⟩
  | settleTimeExpiry i => exact ⟨_, rfl, works_expire s i .settle (moves_settleExpires i)⟩
  | dischargeDeadlineExpiry i => exact ⟨_, rfl, works_expire s i .discharge (moves_dischargeExpires i)⟩
  | wakeLineChange l level => exact ⟨_, rfl, works_afterWakeLineChange s l level⟩
  | wakeDebounceExpiry l => exact ⟨_, rfl, works_afterWakeDebounceExpiry s l⟩
  | countWindowExpiry l => exact ⟨_, rfl, works_afterCountWindowExpiry s l⟩
  | pwrbtnChange level => exact ⟨_, rfl, works_afterPwrbtnChange s level⟩
  | buttonDebounceExpiry => exact ⟨_, rfl, works_afterButtonDebounceExpiry s⟩
  | holdTimerExpiry => exact ⟨_, rfl, works_afterHoldTimerExpiry s⟩
  | segmentExpiry => exact ⟨_, rfl, works_afterSegmentExpiry s⟩
  | inputPinChange i level => exact ⟨_, rfl, works_afterInputPinChange s i level⟩
  | inputFilterExpiry i => exact ⟨_, rfl, works_afterInputFilterExpiry s i⟩
  | dwellExpiry => exact ⟨_, rfl, works_afterDwellExpiry s⟩
  | watchdogWarn => exact ⟨_, rfl, works_afterWatchdogWarn s⟩
  | watchdogExpiry => exact ⟨_, rfl, works_afterWatchdogExpiry s⟩
  | _ => exact ⟨_, rfl, request⟩

/-- What every piece of work keeps, a step keeps, when neither the queue nor the time enters. -/
theorem step_keep {P : State → Prop} (hm : ∀ s t, Work s t → P s → P t) (hq : ∀ s q, P s → P { s with pending := q })
    (hnow : ∀ s now, P s → P { s with now := now }) (hs : P s) (ht : step s = .next t) : P t := by
  unfold step at ht
  split at ht
  · cases ht
    unfold idle
    split
    · exact hs
    · exact hnow s _ hs
  · rename_i c rest _
    obtain ⟨u, hu, works⟩ := works_exec { s with pending := rest } c
    rw [hu] at ht
    cases ht
    exact works.keep hm (hq s rest hs)

/-- A piece of work takes no time and leaves the commands that wait. -/
theorem Work.queue_and_time (h : Work s t) : t.pending = s.pending ∧ t.now = s.now := by
  cases h with
  | aside frame => rw [frame]; exact ⟨rfl, rfl⟩
  | _ => exact ⟨rfl, rfl⟩

end

end Sys2Proof.Machine
end

section
/-! SETTLEMENT. Every command answers a next state, takes no time and leaves the commands behind it waiting. -/

namespace Sys2Proof.Machine

/-- Settles O2: every command is a run of work, and no piece of work touches the queue or the time. -/
theorem everyCommandCompletesInNoTime : Obligations.EveryCommandCompletesInNoTime := by
  unfold Obligations.EveryCommandCompletesInNoTime
  have command : ∀ (c : Instr) (s : State), ∃ t, exec c s = .next t ∧ t.pending = s.pending ∧ t.now = s.now := by
    intro c s
    obtain ⟨t, ht, works⟩ := works_exec s c
    refine ⟨t, ht, works.keep (P := fun u => u.pending = s.pending ∧ u.now = s.now) (fun u v h ⟨hq, hn⟩ => ?_) ⟨rfl, rfl⟩⟩
    obtain ⟨hq', hn'⟩ := h.queue_and_time
    exact ⟨hq'.trans hq, hn'.trans hn⟩
  refine ⟨command, fun s => ?_⟩
  unfold step
  split
  · exact ⟨_, rfl⟩
  · rename_i c rest _
    obtain ⟨t, ht, _⟩ := command c { s with pending := rest }
    exact ⟨t, ht⟩

/-- Settles O1: both queues by unfolding the step, the passing of time by whether an event is due. -/
theorem stepRunsTheFrontCommand : Obligations.StepRunsTheFrontCommand := by
  unfold Obligations.StepRunsTheFrontCommand
  refine ⟨fun c s => rfl, fun s hs => ?_⟩
  obtain ⟨pending⟩ := s
  cases hs
  rfl

end Sys2Proof.Machine
end

section
/-! SUPPORT. The notice queue and ATTN_N, the wake list and the stack: what every move and every piece of work keeps of
them, and what a command leaves to the end of its event. -/

namespace Sys2Proof.Machine

/-! ### What only the end of an event restores (R196) -/

/-- ATTN_N is low exactly while something waits (R196). -/
def State.AttnTells (s : State) : Prop := s.link.attnLow = (s.link.reply.isSome || !s.board.notices.isEmpty)

/-- From one state to another nothing came to be listed at the event in hand, and ATTN_N follows what waits. -/
structure Rests (s t : State) : Prop where
  listed : t.board.listedNow = [] ∨ t.board.listedNow = s.board.listedNow
  attn : t.AttnTells ∨ (t.board.notices = s.board.notices ∧ t.link.reply = s.link.reply ∧ t.link.attnLow = s.link.attnLow)

section
variable {s t u : State}

/-- Nothing that counts has changed. -/
theorem Rests.same (hl : t.board.listedNow = s.board.listedNow) (hn : t.board.notices = s.board.notices)
    (hr : t.link.reply = s.link.reply) (ha : t.link.attnLow = s.link.attnLow) : Rests s t := ⟨.inr hl, .inr ⟨hn, hr, ha⟩⟩

theorem Rests.refl (s : State) : Rests s s := .same rfl rfl rfl rfl

theorem Rests.trans (h : Rests s t) (k : Rests t u) : Rests s u where
  listed := k.listed.elim .inl fun hl => h.listed.imp (hl.trans ·) (hl.trans ·)
  attn := k.attn.elim .inl fun ⟨hn, hr, ha⟩ => h.attn.imp (fun h => by unfold State.AttnTells at h ⊢; rwa [hn, hr, ha])
    fun ⟨hn', hr', ha'⟩ => ⟨hn.trans hn', hr.trans hr', ha.trans ha'⟩

theorem Rests.attnTells (h : Rests s t) (hs : s.AttnTells) : t.AttnTells :=
  h.attn.elim id fun ⟨hn, hr, ha⟩ => by unfold State.AttnTells at hs ⊢; rwa [hn, hr, ha]

theorem Rests.unlisted (h : Rests s t) (hs : s.board.listedNow = []) : t.board.listedNow = [] :=
  h.listed.elim id (·.trans hs)

theorem rests_finish (s s0 t : State) : Rests s (finish s0 t) := ⟨.inl rfl, .inl rfl⟩

theorem rests_attn (h : t.board.listedNow = s.board.listedNow) : Rests s t.attn := ⟨.inr h, .inl rfl⟩

/-! ### Rounds -/

theorem rests_takeSample (i : Slot) (b : Board) (r : NodeRecord) (t : Tick)
    (hb : b.listedNow = s.board.listedNow ∧ b.notices = s.board.notices) :
    Rests s (s.takeSample i (countSample b i r t)) := by
  unfold State.takeSample
  split
  · exact .same hb.1 hb.2 rfl rfl
  · exact rests_finish s _ _

theorem rests_readChannel (s : State) (m : RoundMode) (readings : Readings) (c : Fin 12) :
    Rests s (s.readChannel m readings c) := by
  unfold State.readChannel
  split
  · exact .refl s
  · split
    · split
      · unfold State.sampleAnalog
        dsimp only
        split
        · exact .refl s
        · exact rests_takeSample _ _ _ _ ⟨rfl, rfl⟩
      all_goals exact .refl s
    · exact .refl s

theorem rests_readInput (s : State) (m : RoundMode) (readings : Readings) (c : Fin 12) :
    Rests s (s.readInput m readings c) := by
  unfold State.readInput
  split
  · exact .refl s
  · split
    · unfold State.sampleDigital
      dsimp only
      split
      iterate 2 exact rests_takeSample _ _ _ _ ⟨rfl, rfl⟩
      all_goals exact .refl s
    · exact .refl s

theorem rests_pass (s : State) (m : RoundMode) (readings : Readings) : Rests s (s.pass m readings) :=
  pass_induct (Rests s) m readings (fun t c h => h.trans (rests_readChannel t m readings c))
    (fun t c h => h.trans (rests_readInput t m readings c)) s (.refl s)

theorem rests_withMonitor (s : State) (m : Monitor) : Rests s { s with monitor := m } := .same rfl rfl rfl rfl

theorem rests_afterContinuousRound (s : State) (readings : Readings) : Rests s (afterContinuousRound readings s) := by
  unfold afterContinuousRound
  split
  · exact (rests_withMonitor s _).trans (rests_pass _ _ _)
  · exact .refl s

theorem rests_afterSleepRoundPass (s : State) (readings : Readings) : Rests s (afterSleepRoundPass readings s) := by
  unfold afterSleepRoundPass
  split
  · split
    · exact ((rests_withMonitor s _).trans (rests_pass _ _ _)).trans (rests_withMonitor _ _)
    · exact .refl s
  · exact .refl s

/-! ### Bus transactions -/

theorem rests_putAcks (s : State) (acks : List Bool) : Rests s (s.putAcks acks) := .same rfl rfl rfl rfl

/-- An owner that leaves what it lists to the end of the event says that more follows. -/
def Answer.rests (s : State) (a : Answer) : Prop :=
  a.follows = true ∨ a.state.board.listedNow = s.board.listedNow

theorem rests_request (s : State) (type : Nat) (payload : List Byte) (owner : State → Answer)
    (h : (owner s).rests s) : Rests s (s.request type payload owner) := by
  unfold State.request
  split
  iterate 2 exact rests_putAcks s _
  split
  · exact rests_putAcks s _
  · unfold Answer.place
    dsimp only
    split
    · exact rests_finish s _ _
    · rename_i hfollows
      exact ⟨.inr (h.resolve_left hfollows), .inl rfl⟩

theorem rests_nodePutAnswer (s : State) (p : List Byte) : (nodePutAnswer p s).rests s := by
  unfold nodePutAnswer
  split
  · exact .inr rfl
  split
  · exact .inr rfl
  split
  · split <;> exact .inr rfl
  · exact .inr rfl

theorem rests_clearFaultAnswer (s : State) (slot : Byte) : (clearFaultAnswer slot s).rests s := by
  unfold clearFaultAnswer
  split
  · exact .inr rfl
  · split_ifs <;> exact .inr rfl

theorem rests_afterRequest (s : State) (c : Instr) : Rests s (afterRequest c s) := by
  cases c with
  | status => exact rests_request s _ _ (fun s => .tell s (statusContents s)) (.inr rfl)
  | enter target dwell =>
    refine rests_request s _ _ _ ?_
    unfold enterAnswer
    split
    · exact .inr rfl
    · exact .inl rfl
  | wake =>
    refine rests_request s _ _ _ ?_
    unfold wakeAnswer
    split_ifs
    · exact .inr rfl
    · exact .inr rfl
    · exact .inl rfl
  | checkin =>
    refine rests_request s _ _ _ ?_
    unfold checkinAnswer
    split <;> exact .inr rfl
  | hold field =>
    refine rests_request s _ _ _ ?_
    unfold holdAnswer
    split
    · exact .inl rfl
    · exact .inr rfl
    · exact .inr rfl
  | proceed =>
    refine rests_request s _ _ _ ?_
    unfold proceedAnswer
    split
    · exact .inl rfl
    · exact .inr rfl
  | last =>
    refine rests_request s _ _ _ ?_
    unfold lastAnswer
    split <;> exact .inr rfl
  | nodeGet slot =>
    refine rests_request s _ _ _ ?_
    unfold nodeGetAnswer
    split <;> exact .inr rfl
  | nodePut payload => exact rests_request s _ _ _ (rests_nodePutAnswer s payload)
  | clearFault slot => exact rests_request s _ _ _ (rests_clearFaultAnswer s slot)
  | readRail slot =>
    refine rests_request s _ _ _ ?_
    unfold readRailAnswer
    split
    · exact .inr rfl
    · split <;> exact .inr rfl
  | sourceGet id =>
    refine rests_request s _ _ _ ?_
    unfold sourceGetAnswer
    split <;> exact .inr rfl
  | sourcePut p =>
    refine rests_request s _ _ _ ?_
    unfold sourcePutAnswer
    split
    · exact .inr rfl
    · split
      · exact .inr rfl
      · exact .inl rfl
  | settingsGet => exact rests_request s _ _ (fun s => .tell s (settingsBytes s.cfg.settings)) (.inr rfl)
  | settingsPut p =>
    refine rests_request s _ _ _ ?_
    unfold settingsPutAnswer
    split
    · exact .inr rfl
    · split
      · exact .inr rfl
      · exact .inl rfl
  | save =>
    refine rests_request s _ _ _ ?_
    unfold saveAnswer
    split <;> exact .inr rfl
  | _ => exact .refl s

theorem rests_placeReply (s : State) (bytes : List Byte) (type : Nat) (st : Status) (contents : List Byte) :
    Rests s (s.placeReply bytes type st contents) := ⟨.inr rfl, .inl rfl⟩

theorem rests_afterWrite (s : State) (bytes : List Byte) : Rests s (afterWrite bytes s) := by
  unfold afterWrite
  split
  iterate 2 exact rests_putAcks s _
  split
  iterate 2 exact rests_putAcks s _
  iterate 2 exact rests_placeReply s _ _ _ _
  split
  · exact rests_putAcks s _
  · exact (rests_afterRequest s _).trans (rests_putAcks _ _)

theorem attnTells_beginRead (h : s.AttnTells) : s.beginRead.AttnTells := by
  unfold State.AttnTells State.beginRead at *
  dsimp only
  rw [h]
  split <;> simp

theorem rests_endRead (s : State) (clocked : Nat) : Rests s (s.endRead clocked) := by
  have removed (src : FrameSource) : (s.removeFrame src).board.listedNow = s.board.listedNow := by
    cases src <;> rfl
  unfold State.endRead
  split
  · exact .refl s
  · refine rests_attn ?_
    dsimp only
    split
    · exact removed _
    · rfl

end

/-! ### Every command -/

/-- What every command restores at its end: nothing counts as listed, and ATTN_N follows what waits. -/
structure State.Rested (s : State) (listed attn : Prop) : Prop where
  unlisted : listed → s.board.listedNow = []
  attn : attn → s.AttnTells

theorem Rests.rested {s t : State} (h : Rests s t) : t.Rested (s.board.listedNow = []) s.AttnTells :=
  ⟨h.unlisted, h.attnTells⟩

theorem rested_afterReadTransaction (s : State) (op : ReadOp) :
    (afterReadTransaction op s).Rested (s.board.listedNow = []) s.AttnTells := by
  unfold afterReadTransaction
  split
  · cases op with
    | first => exact ⟨fun h => h, attnTells_beginRead⟩
    | last n => exact (rests_endRead s n).rested
    | whole n =>
      have ended := rests_endRead s.beginRead n
      exact ⟨fun h => ended.unlisted h, fun h => ended.attnTells (attnTells_beginRead h)⟩
  · exact ⟨fun h => h, fun h => h⟩

theorem rests_qualify (s : State) (l : WakeLine) (q : Qualified) : Rests s (s.qualify l q) := by
  unfold State.qualify
  dsimp only
  split
  · exact rests_finish s _ _
  · exact .same rfl rfl rfl rfl

theorem rests_expire (s : State) (i : Slot) (k : DeadlineKind) (f : Env → Board → Slot → Board) :
    Rests s (s.expire i k f) := by
  unfold State.expire
  split
  · exact rests_finish s _ _
  · exact .refl s

theorem rests_afterLoadEvent (s : State) (pins : Pins) : Rests s (afterLoadEvent pins s) := by
  unfold afterLoadEvent
  split
  · exact .refl s
  · split
    · exact rests_finish s _ _
    · exact .refl s

theorem rests_afterSaveEnd (s : State) (readsBack : Bool) : Rests s (afterSaveEnd readsBack s) := by
  unfold afterSaveEnd
  split
  · exact .refl s
  · split
    · exact rests_finish s _ _
    · exact .refl s

theorem rests_afterWakeLineChange (s : State) (l : WakeLine) (level : Level) :
    Rests s (afterWakeLineChange l level s) := by
  have moved : Rests s (s.setWake l level) := .same rfl rfl rfl rfl
  unfold afterWakeLineChange
  split
  · exact moved
  · dsimp only
    split <;> exact moved.trans (rests_qualify _ l _)

theorem rests_released (s : State) : Rests s s.released := by
  unfold State.released
  dsimp only
  split
  · exact .same rfl rfl rfl rfl
  · split
    · exact rests_attn rfl
    · exact .same rfl rfl rfl rfl

theorem rests_afterButtonDebounceExpiry (s : State) : Rests s (afterButtonDebounceExpiry s) := by
  unfold afterButtonDebounceExpiry
  split
  · split
    · exact rests_finish s _ _
    · exact rests_released s
    · exact .same rfl rfl rfl rfl
    all_goals exact .refl s
  · exact .refl s

theorem rests_afterInputFilterExpiry (s : State) (i : SupplyInput) : Rests s (afterInputFilterExpiry i s) := by
  unfold afterInputFilterExpiry
  split
  · dsimp only
    split
    · exact .same rfl rfl rfl rfl
    · exact rests_finish s _ _
  · exact .refl s

theorem rests_afterDwellExpiry (s : State) : Rests s (afterDwellExpiry s) := by
  unfold afterDwellExpiry
  split
  · split
    · exact rests_finish s _ _
    · exact .refl s
  all_goals exact .refl s

theorem rests_afterWatchdogWarn (s : State) : Rests s (afterWatchdogWarn s) := by
  unfold afterWatchdogWarn
  split
  · split
    · exact rests_attn rfl
    · exact .refl s
  all_goals exact .refl s

theorem rests_afterWatchdogExpiry (s : State) : Rests s (afterWatchdogExpiry s) := by
  unfold afterWatchdogExpiry
  split
  · split
    · exact rests_finish s _ _
    · exact .refl s
  · exact .refl s

theorem rests_afterSleepRoundBegin (s : State) : Rests s (afterSleepRoundBegin s) := by
  unfold afterSleepRoundBegin
  split
  · exact rests_withMonitor s _
  · exact .refl s

theorem rests_afterWakeDebounceExpiry (s : State) (l : WakeLine) : Rests s (afterWakeDebounceExpiry l s) := by
  unfold afterWakeDebounceExpiry
  dsimp only
  split
  · exact rests_qualify s l _
  · exact .refl s

theorem rests_afterCountWindowExpiry (s : State) (l : WakeLine) : Rests s (afterCountWindowExpiry l s) := by
  unfold afterCountWindowExpiry
  dsimp only
  split
  · exact .same rfl rfl rfl rfl
  · exact .refl s

theorem rests_afterPwrbtnChange (s : State) (level : Level) : Rests s (afterPwrbtnChange level s) := by
  unfold afterPwrbtnChange
  dsimp only
  split
  · exact .same rfl rfl rfl rfl
  · split <;> exact .same rfl rfl rfl rfl

theorem rests_afterHoldTimerExpiry (s : State) : Rests s (afterHoldTimerExpiry s) := by
  unfold afterHoldTimerExpiry
  split
  · exact rests_finish s _ _
  · exact .refl s

theorem rests_afterSegmentExpiry (s : State) : Rests s (afterSegmentExpiry s) := by
  unfold afterSegmentExpiry
  split
  · exact .same rfl rfl rfl rfl
  · exact .refl s

theorem rests_afterInputPinChange (s : State) (i : SupplyInput) (level : Level) :
    Rests s (afterInputPinChange i level s) := by
  unfold afterInputPinChange
  dsimp only
  split <;> exact .same rfl rfl rfl rfl

theorem rested_exec {s t : State} {c : Instr} (h : exec c s = .next t) :
    t.Rested (s.board.listedNow = []) s.AttnTells := by
  have request := (rests_afterRequest s c).rested
  cases c with
  | invalidRequest bytes | ignoredWrite bytes =>
    obtain rfl := Host.Outcome.next.inj h
    exact (rests_afterWrite s bytes).rested
  | busProbe address => obtain rfl := Host.Outcome.next.inj h; exact ⟨fun h => h, fun h => h⟩
  | readTransaction op => obtain rfl := Host.Outcome.next.inj h; exact rested_afterReadTransaction s op
  | partReset held => obtain rfl := Host.Outcome.next.inj h; exact ⟨fun _ => rfl, fun _ => rfl⟩
  | loadEvent pins => obtain rfl := Host.Outcome.next.inj h; exact (rests_afterLoadEvent s pins).rested
  | saveEnd readsBack => obtain rfl := Host.Outcome.next.inj h; exact (rests_afterSaveEnd s readsBack).rested
  | continuousRound readings =>
    obtain rfl := Host.Outcome.next.inj h
    exact (rests_afterContinuousRound s readings).rested
  | sleepRoundBegin => obtain rfl := Host.Outcome.next.inj h; exact (rests_afterSleepRoundBegin s).rested
  | sleepRoundPass readings =>
    obtain rfl := Host.Outcome.next.inj h
    exact (rests_afterSleepRoundPass s readings).rested
  | rampDeadlineExpiry i => obtain rfl := Host.Outcome.next.inj h; exact (rests_expire s i _ _).rested
  | settleTimeExpiry i => obtain rfl := Host.Outcome.next.inj h; exact (rests_expire s i _ _).rested
  | dischargeDeadlineExpiry i => obtain rfl := Host.Outcome.next.inj h; exact (rests_expire s i _ _).rested
  | wakeLineChange l level => obtain rfl := Host.Outcome.next.inj h; exact (rests_afterWakeLineChange s l level).rested
  | wakeDebounceExpiry l => obtain rfl := Host.Outcome.next.inj h; exact (rests_afterWakeDebounceExpiry s l).rested
  | countWindowExpiry l => obtain rfl := Host.Outcome.next.inj h; exact (rests_afterCountWindowExpiry s l).rested
  | pwrbtnChange level => obtain rfl := Host.Outcome.next.inj h; exact (rests_afterPwrbtnChange s level).rested
  | buttonDebounceExpiry => obtain rfl := Host.Outcome.next.inj h; exact (rests_afterButtonDebounceExpiry s).rested
  | holdTimerExpiry => obtain rfl := Host.Outcome.next.inj h; exact (rests_afterHoldTimerExpiry s).rested
  | segmentExpiry => obtain rfl := Host.Outcome.next.inj h; exact (rests_afterSegmentExpiry s).rested
  | inputPinChange i level => obtain rfl := Host.Outcome.next.inj h; exact (rests_afterInputPinChange s i level).rested
  | inputFilterExpiry i => obtain rfl := Host.Outcome.next.inj h; exact (rests_afterInputFilterExpiry s i).rested
  | dwellExpiry => obtain rfl := Host.Outcome.next.inj h; exact (rests_afterDwellExpiry s).rested
  | watchdogWarn => obtain rfl := Host.Outcome.next.inj h; exact (rests_afterWatchdogWarn s).rested
  | watchdogExpiry => obtain rfl := Host.Outcome.next.inj h; exact (rests_afterWatchdogExpiry s).rested
  | _ => obtain rfl := Host.Outcome.next.inj h; exact request

theorem rested_step {s t : State} (h : step s = .next t) : t.Rested (s.board.listedNow = []) s.AttnTells := by
  unfold step at h
  split at h
  · obtain rfl := Host.Outcome.next.inj h
    unfold idle
    split <;> exact ⟨fun h => h, fun h => h⟩
  · rename_i c rest _
    exact rested_exec (s := { s with pending := rest }) h

/-! ### The notice queue (R195) -/

/-- At most one notice of each kind, merge counts in 1..255. -/
def QueueInv (q : List NoticeEntry) : Prop :=
  (q.map (fun x => x.notice.kind)).Nodup ∧ ∀ x ∈ q, 1 ≤ x.count ∧ x.count ≤ 255

theorem QueueInv.perm {q p : List NoticeEntry} (h : QueueInv q) (hp : p.Perm q) : QueueInv p :=
  ⟨(hp.map _).nodup_iff.mpr h.1, fun x hx => h.2 x (hp.subset hx)⟩

theorem QueueInv.post {q : List NoticeEntry} (h : QueueInv q) (n : Notice) : QueueInv (postInto q n) := by
  obtain ⟨hkinds, hcounts⟩ := h
  refine ⟨?_, fun x hx => ?_⟩
  · rw [postInto_kinds]
    split
    · exact hkinds
    · rename_i hn
      exact List.nodup_append.mpr ⟨hkinds, List.nodup_singleton _, fun a ha b hb => by
        rw [List.mem_singleton.mp hb]; exact fun hab => hn (hab ▸ ha)⟩
  · unfold postInto at hx
    split at hx
    · obtain ⟨y, hy, rfl⟩ := List.mem_map.mp hx
      obtain ⟨hlow, hhigh⟩ := hcounts y hy
      unfold mergeNotice
      split
      · dsimp only; omega
      · exact ⟨hlow, hhigh⟩
    · rcases List.mem_append.mp hx with hx | hx
      · exact hcounts x hx
      · rw [List.mem_singleton.mp hx]; exact ⟨Nat.le_refl 1, Nat.le_add_left 1 254⟩

theorem QueueInv.single (n : Notice) : QueueInv [⟨n, 1, false⟩] :=
  ⟨List.nodup_singleton _, fun x hx => by rw [List.mem_singleton.mp hx]; exact ⟨Nat.le_refl 1, Nat.le_add_left 1 254⟩⟩

theorem QueueInv.marked {q : List NoticeEntry} (h : QueueInv q) {f : NoticeEntry → NoticeEntry}
    (same : ∀ x, (f x).notice = x.notice ∧ (f x).count = x.count) : QueueInv (q.map f) := by
  refine ⟨?_, fun x hx => ?_⟩
  · rw [List.map_map, List.map_congr_left (g := fun x => x.notice.kind) fun x _ => by simp [(same x).1]]
    exact h.1
  · obtain ⟨y, hy, rfl⟩ := List.mem_map.mp hx
    rw [(same y).2]
    exact h.2 y hy

theorem QueueInv.filter {q : List NoticeEntry} (h : QueueInv q) (p : NoticeEntry → Bool) : QueueInv (q.filter p) :=
  ⟨h.1.sublist (List.filter_sublist.map _), fun x hx => h.2 x (List.mem_of_mem_filter hx)⟩

theorem QueueInv.nil : QueueInv [] := ⟨List.nodup_nil, fun _ hx => absurd hx List.not_mem_nil⟩

/-- The board of the load event. -/
theorem loadedState_board (pins : Pins) (s : State) :
    (loadedState pins s).board
      = loadedBoard (loadedConfig s.store.image) (loadResult s.store.image) (pins.hotshut == .low) := by
  simp only [loadedState]

/-- A move posts at most one notice. -/
theorem Move.notices {e : Env} {b t : Board} (h : Move e b t) :
    t.notices = b.notices ∨ ∃ n, t.notices = postInto b.notices n := by
  cases h with
  | switch h => exact .inl (by rw [h.frame])
  | engine h =>
    cases h with
    | post n => exact .inr ⟨n, rfl⟩
    | complete _ r hr => simp only [Machine.complete, hr]; exact .inr ⟨_, rfl⟩
    | undone _ r hr => simp only [Machine.endReversing, hr]; exact .inr ⟨_, rfl⟩
    | drained _ r hr => simp only [Machine.endEmergency, hr]; split <;> exact .inr ⟨_, rfl⟩
    | _ => exact .inl rfl

theorem QueueInv.move {e : Env} {b t : Board} (h : Move e b t) (hq : QueueInv b.notices) : QueueInv t.notices := by
  rcases h.notices with hn | ⟨n, hn⟩ <;> rw [hn]
  · exact hq
  · exact hq.post n

theorem QueueInv.work {s t : State} (h : Work s t) (hq : QueueInv s.board.notices) : QueueInv t.board.notices := by
  cases h with
  | aside frame => rw [frame]; exact hq
  | board moves => exact moves.keep (fun _ _ => QueueInv.move) hq
  | order q perm => exact hq.perm perm
  | read f same => exact hq.marked same
  | drop p => exact hq.filter p
  | stepHold on still => exact hq
  | config cfg nodes => exact hq
  | put i rec passes => exact hq
  | save job content => exact hq
  | saved job saving readsBack => exact hq
  | reset held => exact QueueInv.nil
  | load pins =>
    have loaded := QueueInv.single (.store .load (loadResult s.store.image))
    rw [loadedState_board]
    exact loaded

end Sys2Proof.Machine
end

section
/-! SETTLEMENT. The law of the link. -/

namespace Sys2Proof.Machine

/-- Settles O53: every move posts at most one notice, every other piece of work reorders, marks or removes entries, and
each command leaves ATTN_N at the level that what waits calls for. -/
theorem linkLawsAreKept : Obligations.LinkLawsAreKept := by
  unfold Obligations.LinkLawsAreKept
  intro s t ⟨hkinds, hcounts, hattn⟩ hstep
  have queue : QueueInv t.board.notices :=
    step_keep (P := fun s => QueueInv s.board.notices) (fun _ _ => QueueInv.work) (fun _ _ => id) (fun _ _ => id)
      ⟨hkinds, hcounts⟩ hstep
  exact ⟨queue.1, queue.2, (rested_step hstep).attn hattn⟩

end Sys2Proof.Machine
end

section
/-! SUPPORT. The pending wake list, the resume failure counter, the rollback stack and step hold under every move. -/

namespace Sys2Proof.Machine

/-! ### The ends of a transition -/

/-- The engine stands idle with nothing listed, stacked or held. -/
def Board.AtEnd (b : Board) : Prop := b.phase = .idle ∧ b.stack = [] ∧ b.issue = [] ∧ b.held = false

section
variable {e : Env} {b : Board} {r : Record}

theorem atEnd_complete (hr : b.record = some r) : (complete e b).AtEnd := by
  simp only [complete, hr]
  exact ⟨rfl, rfl, rfl, rfl⟩

theorem atEnd_endReversing (hr : b.record = some r) : (endReversing e b).AtEnd := by
  simp only [endReversing, hr]
  exact ⟨rfl, rfl, rfl, rfl⟩

theorem atEnd_endEmergency (hr : b.record = some r) : (endEmergency e b).AtEnd := by
  simp only [endEmergency, hr]
  split <;> exact ⟨rfl, rfl, rfl, rfl⟩

end

/-! ### The wake list and the counter (R121, R142) -/

/-- Each source at most once on the list, the counter in 0..3. -/
def WakeLaw (b : Board) : Prop := b.wakes.Nodup ∧ b.counter ≤ 3

theorem nodup_joinList {l : List SourceId} (h : l.Nodup) (id : SourceId) : (joinList l id).Nodup := by
  unfold joinList
  split
  · exact h
  · rename_i hid
    exact List.nodup_append.mpr ⟨h, List.nodup_singleton id, fun a ha b hb => by
      rw [List.mem_singleton.mp hb]; exact fun hab => hid (hab ▸ ha)⟩

theorem WakeLaw.engine {e : Env} {b t : Board} (h : EngineMove e b t) (hb : WakeLaw b) : WakeLaw t := by
  obtain ⟨hwakes, hcounter⟩ := hb
  cases h with
  | complete _ r hr =>
    simp only [Machine.complete, hr]
    refine ⟨?_, hcounter⟩
    dsimp only
    split
    · exact List.nodup_nil
    · exact hwakes
  | undone _ r hr =>
    simp only [endReversing, hr]
    refine ⟨?_, ?_⟩ <;> dsimp only
    · split
      · exact List.nodup_nil
      · exact hwakes
    · unfold counterAfterUnwind
      split
      · exact Nat.min_le_left 3 _
      · exact hcounter
  | drained _ r hr =>
    simp only [endEmergency, hr]
    split
    · exact ⟨List.nodup_nil, hcounter⟩
    · exact ⟨hwakes, hcounter⟩
  | drain => exact ⟨List.nodup_nil, hcounter⟩
  | lock => exact ⟨List.nodup_nil, hcounter⟩
  | unlock => exact ⟨hwakes, Nat.zero_le 3⟩
  | claim _ _ _ _ _ sub => exact ⟨hwakes.sublist sub, hcounter⟩
  | join id => exact ⟨nodup_joinList hwakes id, hcounter⟩
  | disarm _ _ bounded => exact ⟨hwakes, bounded⟩
  | _ => exact ⟨hwakes, hcounter⟩

theorem WakeLaw.move {e : Env} {b t : Board} (h : Move e b t) (hb : WakeLaw b) : WakeLaw t := by
  cases h with
  | switch h => rw [h.frame]; exact hb
  | engine h => exact hb.engine h

theorem WakeLaw.work {s t : State} (h : Work s t) (hs : WakeLaw s.board) : WakeLaw t.board := by
  cases h with
  | aside frame => rw [frame]; exact hs
  | board moves => exact moves.keep (fun _ _ => WakeLaw.move) hs
  | reset held => exact ⟨List.nodup_nil, Nat.zero_le 3⟩
  | load pins => rw [loadedState_board]; exact ⟨List.nodup_nil, Nat.zero_le 3⟩
  | order q perm => exact hs
  | read f same => exact hs
  | drop p => exact hs
  | stepHold on still => exact hs
  | config cfg nodes => exact hs
  | put i rec passes => exact hs
  | save job content => exact hs
  | saved job saving readsBack => exact hs

/-! ### The stack and the held action (R14, R26, R129) -/

/-- Each node at most once on the stack; nothing stacked, listed or held outside a transition; a held action stands
under the flag, at the head of a list. -/
structure StackLaw (b : Board) : Prop where
  once : (b.stack.map Action.slot).Nodup
  rest : b.phase.inTransition = false → b.stack = [] ∧ b.issue = [] ∧ b.held = false
  hold : b.held = true → b.stepHold = true ∧ b.issue ≠ []

section
variable {e : Env} {b t : Board}

theorem Board.AtEnd.stackLaw {nodes : Vector Node 20} (h : t.AtEnd) : StackLaw { t with nodes := nodes } := by
  obtain ⟨_, hstack, hissue, hheld⟩ := h
  refine ⟨?_, fun _ => ⟨hstack, hissue, hheld⟩, fun h => ?_⟩
  · dsimp only; rw [hstack]; exact List.nodup_nil
  · dsimp only at h; rw [hheld] at h; cases h

/-- A board in a transition. -/
theorem StackLaw.moving (moving : t.phase.inTransition = true) (once : (t.stack.map Action.slot).Nodup)
    (hold : t.held = true → t.stepHold = true ∧ t.issue ≠ []) : StackLaw t :=
  ⟨once, fun h => absurd moving (by simp [h]), hold⟩

/-- An action is held in a transition only. -/
theorem StackLaw.inTransition (h : StackLaw b) (hm : b.phase.inTransition = true ∨ b.held = true) :
    b.phase.inTransition = true := by
  rcases hm with hm | hm
  · exact hm
  · by_contra hrest
    have := (h.rest (by simpa using hrest)).2.2
    rw [hm] at this
    cases this

theorem enlist_ne_nil {act : ActKind} {l : List Slot} (h : b.issue ≠ []) : (enlist b act l).issue ≠ [] := by
  obtain ⟨a, ha⟩ := List.exists_mem_of_ne_nil _ h
  exact List.ne_nil_of_mem ((mem_enlist b act l a).mpr (.inl ha))

theorem StackLaw.push (h : StackLaw b) (i : Slot) (act : ActKind)
    (moving : b.phase.inTransition = true ∨ b.held = true) : StackLaw (pushEntry b i act) := by
  refine .moving (h.inTransition moving) ?_ h.hold
  refine List.nodup_cons.mpr ⟨fun hi => ?_, h.once.sublist (List.filter_sublist.map _)⟩
  obtain ⟨a, ha, hai⟩ := List.mem_map.mp hi
  simpa [hai] using List.of_mem_filter ha

theorem StackLaw.engine (h : EngineMove e b t) (hb : StackLaw b) : StackLaw t := by
  cases h with
  | list act l moving => exact .moving moving hb.once fun hheld => ⟨(hb.hold hheld).1, enlist_ne_nil (hb.hold hheld).2⟩
  | unlist issue held sub still =>
    refine ⟨hb.once, fun hrest => ?_, fun hheld => ⟨(hb.hold (still hheld).1).1, (still hheld).2⟩⟩
    obtain ⟨hstack, hissue, hidle⟩ := hb.rest hrest
    refine ⟨hstack, List.eq_nil_of_sublist_nil (hissue ▸ sub), ?_⟩
    by_contra hheld
    have := (still (by simpa using hheld)).1
    rw [hidle] at this
    cases this
  | hold flag some =>
    refine .moving ?_ hb.once fun _ => ⟨flag, some⟩
    by_contra hrest
    exact some (hb.rest (by simpa using hrest)).2.1
  | push i act moving => exact hb.push i act moving
  | pop stack sub =>
    refine ⟨hb.once.sublist (sub.map _), fun hrest => ?_, hb.hold⟩
    obtain ⟨hstack, hissue, hheld⟩ := hb.rest hrest
    exact ⟨List.eq_nil_of_sublist_nil (hstack ▸ sub), hissue, hheld⟩
  | raise lowering => exact .moving rfl hb.once hb.hold
  | reverse moving => exact .moving rfl hb.once nofun
  | drain cause fault => exact ⟨List.nodup_nil, fun _ => ⟨rfl, rfl, rfl⟩, nofun⟩
  | start => exact ⟨List.nodup_nil, fun _ => ⟨rfl, rfl, rfl⟩, nofun⟩
  | giveUp => exact ⟨List.nodup_nil, fun _ => ⟨rfl, rfl, rfl⟩, nofun⟩
  | complete _ r hr => exact (atEnd_complete hr).stackLaw
  | undone _ r hr => exact (atEnd_endReversing hr).stackLaw
  | drained _ r hr => exact (atEnd_endEmergency hr).stackLaw
  | _ => exact ⟨hb.once, hb.rest, hb.hold⟩

theorem StackLaw.move (h : Move e b t) (hb : StackLaw b) : StackLaw t := by
  cases h with
  | switch h => rw [h.frame]; exact ⟨hb.once, hb.rest, hb.hold⟩
  | engine h => exact hb.engine h

end

theorem StackLaw.reset : StackLaw Board.reset := ⟨List.nodup_nil, fun _ => ⟨rfl, rfl, rfl⟩, nofun⟩

theorem StackLaw.work {s t : State} (h : Work s t) (hs : StackLaw s.board) : StackLaw t.board := by
  cases h with
  | aside frame => rw [frame]; exact hs
  | board moves => exact moves.keep (fun _ _ => StackLaw.move) hs
  | reset held => exact .reset
  | load pins => rw [loadedState_board]; exact ⟨List.nodup_nil, fun _ => ⟨rfl, rfl, rfl⟩, nofun⟩
  | order q perm => exact ⟨hs.once, hs.rest, hs.hold⟩
  | read f same => exact ⟨hs.once, hs.rest, hs.hold⟩
  | drop p => exact ⟨hs.once, hs.rest, hs.hold⟩
  | stepHold on still =>
    refine ⟨hs.once, hs.rest, fun hheld => ⟨still.resolve_right ?_, (hs.hold hheld).2⟩⟩
    simpa using hheld
  | config cfg nodes => exact hs
  | put i rec passes => exact ⟨hs.once, hs.rest, hs.hold⟩
  | save job content => exact hs
  | saved job saving readsBack => exact hs

end Sys2Proof.Machine
end

section
/-! SETTLEMENT. The laws of the lists. -/

namespace Sys2Proof.Machine

/-- Settles O54: both laws hold after every move; what an event lists, the end of the event forgets. -/
theorem listLawsAreKept : Obligations.ListLawsAreKept := by
  unfold Obligations.ListLawsAreKept
  intro s t hstep
  refine ⟨fun hs => ?_, fun ⟨once, rest, hold, unlisted⟩ => ?_⟩
  · exact step_keep (P := fun s => WakeLaw s.board) (fun _ _ => WakeLaw.work) (fun _ _ => id) (fun _ _ => id) hs hstep
  · have law : StackLaw t.board := step_keep (P := fun s => StackLaw s.board) (fun _ _ => StackLaw.work) (fun _ _ => id)
      (fun _ _ => id) ⟨once, rest, hold⟩ hstep
    exact ⟨law.once, law.rest, law.hold, (rested_step hstep).unlisted unlisted⟩

end Sys2Proof.Machine
end

section
/-! SUPPORT. The record, the marks, the claims, the lockout and the long timers under every move of the engine. -/

namespace Sys2Proof.Machine

/-- The laws of the engine on a board, under UNCONFIGURED or not. -/
structure EngineLaw (unconfigured : Bool) (b : Board) : Prop where
  record : RecordInv b
  emergency : EmergencyInv b
  marks : MarksInv b
  last : LastInv b
  followOn : FollowOnInv b
  lockout : LockoutInv b
  dwell : DwellInv b
  watchdog : WatchdogInv b
  restore : AcRestoreInv b
  configured : unconfigured = true → b.platform = .off ∧ b.phase.inTransition = false

/-! ### What the laws say of a record, and of an engine at rest -/

section
variable {b t : Board} {u : Bool}

theorem recordInv_some {r : Record} (hr : b.record = some r) : RecordInv b ↔ b.phase ≠ .idle ∧ r.source = b.platform
    ∧ kindFits r.kind r.source r.target = true ∧ (r.origin = some .start → r.target = .off) := by
  unfold RecordInv
  rw [hr]

theorem EngineLaw.idle_of_unrecorded (h : EngineLaw u b) (hr : b.record = none) : b.phase = .idle := by
  have := h.record
  unfold RecordInv at this
  rwa [hr] at this

theorem EngineLaw.unrecorded (h : EngineLaw u b) (hp : b.phase = .idle) : b.record = none := by
  cases hr : b.record with
  | none => rfl
  | some r => exact absurd hp ((recordInv_some hr).mp h.record).1

theorem followOnInv_none (h : b.followOn = none) : FollowOnInv b := by
  unfold FollowOnInv
  rw [h]
  trivial

theorem followOnInv_up (h : b.followOn = some .acRestoreUp ∨ b.followOn = some .recoveryUp) (hp : b.platform = .off)
    (hd : b.phase ≠ .draining) : FollowOnInv b := by
  unfold FollowOnInv
  rcases h with h | h <;> rw [h] <;> exact ⟨hp, hd⟩

theorem followOnInv_drop (h : b.followOn = some .recoveryDrop) (hp : b.platform = .doze ∨ b.platform = .hibernate)
    (hd : b.phase ≠ .draining) : FollowOnInv b := by
  unfold FollowOnInv
  rw [h]
  exact ⟨hp, hd⟩

/-- The follow-on claim stands on, outside DRAINING. -/
theorem FollowOnInv.keep (h : FollowOnInv b) (hf : t.followOn = b.followOn) (hp : t.platform = b.platform)
    (hd : t.phase ≠ .draining) : FollowOnInv t := by
  unfold FollowOnInv at h ⊢
  rw [hf, hp]
  split at h
  · trivial
  · exact ⟨h.1, hd⟩
  · exact ⟨h.1, hd⟩
  · exact ⟨h.1, hd⟩

theorem onlyRelevel_of_rest (h : b.phase.inTransition = false) : onlyRelevel b := fun hm => by simp [h] at hm

/-- Only a RELEVEL is in progress, and the record says so. -/
theorem relevel_of_onlyRelevel {r : Record} (h : onlyRelevel b) (hm : b.phase.inTransition = true)
    (hr : b.record = some r) : r.kind = .relevel := by
  obtain ⟨q, hq, hk⟩ := h hm
  rw [hr] at hq
  cases hq
  exact hk

theorem source_eq_target_of_relevel {p q : Platform} (h : kindFits .relevel p q = true) : p = q := by
  simpa [kindFits] using h

/-- The row of the table of kinds that a record names, and its origin, are those of another. -/
def Record.SameRow (r q : Record) : Prop :=
  q.kind = r.kind ∧ q.source = r.source ∧ q.target = r.target ∧ q.origin = r.origin

/-- A record replaced by one of the same row. -/
theorem EngineLaw.sameRow (h : EngineLaw u b) {r q : Record} (hr : b.record = some r) (row : r.SameRow q) :
    EngineLaw u { b with record := some q } := by
  obtain ⟨hkind, hsource, htarget, horigin⟩ := row
  have kind (P : Kind → Prop) (hex : ∃ r', b.record = some r' ∧ P r'.kind) : ∃ q', some q = some q' ∧ P q'.kind := by
    obtain ⟨r', hr', hP⟩ := hex
    rw [hr] at hr'
    cases hr'
    exact ⟨q, rfl, by rw [hkind]; exact hP⟩
  have relevel (ho : onlyRelevel b) : onlyRelevel { b with record := some q } := fun hm => kind (· = .relevel) (ho hm)
  refine ⟨?_, h.emergency, ?_, h.last, h.followOn, fun hl => ?_, ⟨fun hd => ?_, h.dwell.2⟩, fun d a w k o hw => ?_,
    fun ha => ?_, h.configured⟩
  · refine (recordInv_some rfl).mpr ?_
    rw [hkind, hsource, htarget, horigin]
    exact (recordInv_some hr).mp h.record
  · refine ⟨fun hrev => ?_, fun m hm => ?_⟩
    · obtain ⟨moving, hex⟩ := h.marks.1 hrev
      exact ⟨moving, kind (·.isDownward = true) hex⟩
    · obtain ⟨hlow, hhigh, moving, hex⟩ := h.marks.2 m hm
      exact ⟨hlow, hhigh, moving, kind (· = .dozeIn) hex⟩
  · obtain ⟨hoff, ho⟩ := h.lockout hl
    exact ⟨hoff, relevel ho⟩
  · obtain ⟨hdoze, hdrain, ho⟩ := h.dwell.1 hd
    exact ⟨hdoze, hdrain, relevel ho⟩
  · obtain ⟨hp, hdrain, ho, hrest⟩ := h.watchdog d a w k o hw
    exact ⟨hp, hdrain, relevel ho, hrest⟩
  · obtain ⟨hp, hdrain, ho⟩ := h.restore ha
    exact ⟨hp, hdrain, relevel ho⟩

theorem EngineLaw.blame (h : EngineLaw u b) (i : Slot) (k : FaultKind) (replaces : Bool) :
    EngineLaw u { b with record := recordFault b i k replaces } := by
  unfold recordFault
  split
  · cases hr : b.record with
    | none =>
      have same : b = { b with record := none } := by rw [← hr]
      exact same ▸ h
    | some r => exact h.sameRow hr ⟨rfl, rfl, rfl, rfl⟩
  · exact h

end

/-! ### Starts and ends of transitions -/

section
variable {e : Env} {b t : Board} {u : Bool}

/-- A start is a row of the table of kinds (R7, R8). -/
theorem EngineLaw.fits_of_mayBegin (h : EngineLaw u b) {kind : Kind} {target : Platform} (hk : b.mayBegin kind target) :
    kindFits kind b.platform target = true := by
  have follow := h.followOn
  unfold FollowOnInv at follow
  rcases hk with fits | ⟨hup | hup, rfl, rfl⟩ | ⟨hdrop, rfl, rfl⟩
  · exact fits
  · rw [hup] at follow; rw [follow.1]; rfl
  · rw [hup] at follow; rw [follow.1]; rfl
  · rw [hdrop] at follow
    rcases follow.1 with hp | hp <;> rw [hp] <;> rfl

/-- In OFF an engine starts a RELEVEL or an UP. -/
theorem relevel_of_fits_off {kind : Kind} {target : Platform} (fits : kindFits kind .off target = true)
    (hup : kind ≠ .up) : kind = .relevel := by
  revert fits
  cases kind <;> cases target <;> simp_all [kindFits]

/-- What the start of a transition leaves of a mark that only a RELEVEL may run under. -/
theorem EngineLaw.start (h : EngineLaw u b) {kind : Kind} {target : Platform} {origin : Origin}
    {wake : Option SourceId} {dwell : Option Nat} {empty : Bool} (idle : b.phase = .idle) (configured : u = false)
    (fits : b.mayBegin kind target) (unlocked : b.lockout ≠ .none → kind ≠ .up)
    (first : origin = .start → target = .off) (dwells : ∀ m, dwell = some m → 1 ≤ m ∧ m ≤ 1440 ∧ kind = .dozeIn) :
    EngineLaw u (startFields e b kind target origin wake dwell empty) := by
  have row := h.fits_of_mayBegin fits
  have relevel (hk : kind = .relevel) : onlyRelevel (startFields e b kind target origin wake dwell empty) :=
    fun _ => ⟨_, rfl, hk⟩
  refine ⟨?_, ?_, ?_, h.last, ?_, fun hl => ?_, ⟨fun hd => ?_, fun m t hd => ?_⟩, fun d a w k o hw => ?_, fun ha => ?_,
    fun hu => ?_⟩
  · refine (recordInv_some rfl).mpr ⟨nofun, rfl, row, fun ho => first (Option.some.inj ho)⟩
  · obtain ⟨hcause, hthermal⟩ := h.emergency
    refine ⟨⟨fun hc => ?_, nofun⟩, fun ht => ?_⟩
    · have := hcause.mp hc; rw [idle] at this; cases this
    · have := hthermal ht; rw [idle] at this; cases this
  · refine ⟨fun hrev => ⟨rfl, _, rfl, ?_⟩, fun m hm => ?_⟩
    · simp only [startFields, Bool.and_eq_true] at hrev
      exact hrev.1
    · obtain ⟨hlow, hhigh, hk⟩ := dwells m hm
      exact ⟨hlow, hhigh, rfl, _, rfl, hk⟩
  · exact h.followOn.keep rfl rfl nofun
  · obtain ⟨hoff, _⟩ := h.lockout hl
    rw [hoff] at row
    exact ⟨hoff, relevel (relevel_of_fits_off row (unlocked hl))⟩
  · simp only [startFields] at hd
    split at hd
    · exact absurd rfl hd
    · rename_i hk
      obtain ⟨hdoze, _⟩ := h.dwell.1 hd
      exact ⟨hdoze, nofun, relevel (by simpa [hdoze] using hk)⟩
  · simp only [startFields] at hd
    split at hd
    · cases hd
    · exact h.dwell.2 m t hd
  · simp only [startFields] at hw
    split at hw
    · cases hw
    · rename_i hk
      obtain ⟨hworking, _, _, hrest⟩ := h.watchdog d a w k o hw
      exact ⟨hworking, nofun, relevel (by simpa [hworking] using hk), hrest⟩
  · simp only [startFields, Bool.and_eq_true, bne_iff_ne, ne_eq] at ha
    obtain ⟨ha, hup⟩ := ha
    obtain ⟨hoff, _⟩ := h.restore ha
    rw [hoff] at row
    exact ⟨hoff, nofun, relevel (relevel_of_fits_off row hup)⟩
  · rw [configured] at hu; cases hu

/-- At the begin of an emergency off, a record is there or is opened from the platform state. -/
theorem recordInv_drainFields (h : EngineLaw u b) (cause : Cause) (fault : Option (Slot × FaultKind)) :
    RecordInv (drainFields e b cause fault) := by
  refine (recordInv_some rfl).mpr ⟨nofun, ?_⟩
  unfold emergencyRecord
  cases hr : b.record with
  | none =>
    refine ⟨rfl, ?_, nofun⟩
    show kindFits (emergencyKind b.platform) b.platform .off = true
    cases b.platform <;> rfl
  | some r => exact ((recordInv_some hr).mp h.record).2

theorem EngineLaw.drain (h : EngineLaw u b) (cause : Cause) (fault : Option (Slot × FaultKind)) :
    EngineLaw u (drainFields e b cause fault) where
  record := recordInv_drainFields h cause fault
  emergency := ⟨⟨fun _ => rfl, fun _ => rfl⟩, fun _ => rfl⟩
  marks := ⟨nofun, nofun⟩
  last := h.last
  followOn := trivial
  lockout := fun hl => ⟨(h.lockout hl).1, onlyRelevel_of_rest rfl⟩
  dwell := ⟨fun hd => absurd rfl hd, nofun⟩
  watchdog := nofun
  restore := nofun
  configured := fun hu => ⟨(h.configured hu).1, rfl⟩

/-- What stands at the end of a transition, whatever it was: the laws but for those of the claims, the lockout and the
long timers hold on an idle board that names its last record. -/
theorem engineLaw_closed {nodes : Vector Node 20} (idle : t.phase = .idle) (record : t.record = none)
    (emergency : t.cause = none ∧ t.thermalMark = false) (marks : t.reversible = false ∧ t.requestedDwell = none)
    (last : LastInv t) (followOn : FollowOnInv t) (lockout : t.lockout ≠ .none → t.platform = .off)
    (dwell : t.dwell ≠ .none → t.platform = .doze) (minutes : ∀ m at_, t.dwell = .running m at_ → 1 ≤ m ∧ m ≤ 1440)
    (watchdog : ∀ deadline at_ warned kind outcome, t.watchdog = .armed deadline at_ warned kind outcome →
      t.platform = .working ∧ 1000 ≤ deadline
        ∧ ((outcome = .completed ∧ kind.isResume = true) ∨ (outcome = .reversed ∧ (kind = .dozeIn ∨ kind = .down))))
    (restore : t.acRestore = true → t.platform = .off) (configured : u = true → t.platform = .off) :
    EngineLaw u { t with nodes := nodes } := by
  have rest : t.phase.inTransition = false := by rw [idle]; rfl
  have undrained : t.phase ≠ .draining := by rw [idle]; nofun
  have relevel : onlyRelevel { t with nodes := nodes } := onlyRelevel_of_rest rest
  refine ⟨?_, ?_, ?_, last, followOn, fun hl => ⟨lockout hl, relevel⟩, ⟨fun hd => ⟨dwell hd, undrained, relevel⟩, minutes⟩,
    fun d a w k o hw => ?_, fun ha => ⟨restore ha, undrained, relevel⟩, fun hu => ⟨configured hu, rest⟩⟩
  · unfold RecordInv; dsimp only; rw [record]; exact idle
  · unfold EmergencyInv; dsimp only; rw [emergency.1, emergency.2, idle]; simp
  · unfold MarksInv; dsimp only; rw [marks.1, marks.2]; simp
  · obtain ⟨hp, hlow, hout⟩ := watchdog d a w k o hw
    exact ⟨hp, undrained, relevel, hlow, hout⟩

/-- The watchdog is armed at an arming event, or stays as it was. -/
theorem armWatchdog_cases {w : Watchdog} {kind k : Kind} {outcome o : Ended} {d a : Nat} {warned : Bool}
    (h : armWatchdog e w kind outcome = .armed d a warned k o) :
    w = .armed d a warned k o ∨ (1000 ≤ d ∧ k = kind ∧ o = outcome) := by
  unfold armWatchdog at h
  split at h
  · exact .inl h
  · rename_i hzero
    simp only [Watchdog.armed.injEq] at h
    obtain ⟨rfl, _, _, rfl, rfl⟩ := h
    exact .inr ⟨by omega, rfl, rfl⟩

/-- Neither the emergency cause nor the thermal mark stands outside DRAINING. -/
theorem EngineLaw.uncaused (h : EngineLaw u b) (hp : b.phase ≠ .draining) : b.cause = none ∧ b.thermalMark = false := by
  obtain ⟨hcause, hthermal⟩ := h.emergency
  refine ⟨?_, ?_⟩
  · rw [← Option.not_isSome_iff_eq_none]; exact fun hc => hp (hcause.mp hc)
  · rw [← Bool.not_eq_true]; exact fun ht => hp (hthermal ht)

theorem target_of_isResume {r : Record} (fits : kindFits r.kind r.source r.target = true)
    (h : r.kind.isResume = true) : r.target = .working := by
  revert fits h
  cases r.kind <;> cases r.source <;> cases r.target <;> simp [kindFits, Kind.isResume]

theorem target_of_dozeIn {p q : Platform} (fits : kindFits .dozeIn p q = true) : q = .doze := by
  revert fits
  cases p <;> cases q <;> simp [kindFits]

/-- A completion sets a follow-on only for a transition to OFF (R8). -/
theorem followOnOfCompletion_cases {r : Record} (first : r.origin = some .start → r.target = .off) :
    followOnOfCompletion e b r = none ∨ (r.target = .off ∧ (followOnOfCompletion e b r = some .acRestoreUp
      ∨ followOnOfCompletion e b r = some .recoveryUp)) := by
  unfold followOnOfCompletion
  split
  · rename_i hstart; exact .inr ⟨first hstart.2.1, .inl rfl⟩
  · split
    · rename_i hdown; exact .inr ⟨hdown.2.2.1, .inr rfl⟩
    · exact .inl rfl

/-- The dwell that a completion leaves (R165, R166). -/
def dwellAfter (e : Env) (b : Board) (r : Record) : Dwell :=
  match r.kind, b.requestedDwell with
  | .dozeIn, some m => .running m (e.now + m * 60000)
  | _, _ => b.dwell

theorem dwellAfter_cases (e : Env) (b : Board) (r : Record) : dwellAfter e b r = b.dwell
    ∨ r.kind = .dozeIn ∧ ∃ m, b.requestedDwell = some m ∧ dwellAfter e b r = .running m (e.now + m * 60000) := by
  unfold dwellAfter
  split
  · rename_i hk hm; exact .inr ⟨hk, _, hm, rfl⟩
  · exact .inl rfl

theorem EngineLaw.complete (h : EngineLaw u b) (hp : b.phase = .raising) {r : Record} (hr : b.record = some r)
    {nodes : Vector Node 20} : EngineLaw u { Machine.complete e b with nodes := nodes } := by
  have moving : b.phase.inTransition = true := by rw [hp]; rfl
  obtain ⟨_, source, fits, first⟩ := (recordInv_some hr).mp h.record
  have relevel (ho : onlyRelevel b) : r.target = b.platform := by
    rw [relevel_of_onlyRelevel ho moving hr] at fits
    rw [← source]; exact (source_eq_target_of_relevel fits).symm
  refine engineLaw_closed ?_ ?_ ?_ ?_ ?_ ?_ ?_ ?_ ?_ ?_ ?_ ?_ <;> simp only [Machine.complete, hr]
  · rfl
  · rfl
  · exact h.uncaused (by rw [hp]; nofun)
  · exact ⟨rfl, rfl⟩
  · rfl
  · rcases followOnOfCompletion_cases (e := e) (b := b) first with hf | ⟨hoff, hf⟩
    · exact followOnInv_none hf
    · exact followOnInv_up hf hoff nofun
  · exact fun hl => (relevel (h.lockout hl).2).trans (h.lockout hl).1
  · change dwellAfter e b r ≠ .none → _
    intro hd
    rcases dwellAfter_cases e b r with hk | ⟨hk, _⟩
    · rw [hk] at hd
      obtain ⟨hdoze, _, ho⟩ := h.dwell.1 hd
      exact (relevel ho).trans hdoze
    · rw [hk] at fits
      exact target_of_dozeIn fits
  · change ∀ m t, dwellAfter e b r = .running m t → _
    intro m t hd
    rcases dwellAfter_cases e b r with hk | ⟨_, n, hn, hk⟩
    · exact h.dwell.2 m t (hk ▸ hd)
    · rw [hk] at hd
      cases hd
      obtain ⟨hlow, hhigh, _⟩ := h.marks.2 m hn
      exact ⟨hlow, hhigh⟩
  · intro d a w k o hw
    have old (hw : b.watchdog = .armed d a w k o) := by
      obtain ⟨hworking, _, ho, hlow, hout⟩ := h.watchdog d a w k o hw
      exact (⟨(relevel ho).trans hworking, hlow, hout⟩ : r.target = .working ∧ 1000 ≤ d
        ∧ ((o = .completed ∧ k.isResume = true) ∨ (o = .reversed ∧ (k = .dozeIn ∨ k = .down))))
    split at hw
    · rename_i hresume
      rcases armWatchdog_cases hw with hw | ⟨hlow, rfl, rfl⟩
      · exact old hw
      · exact ⟨target_of_isResume fits hresume, hlow, .inl ⟨rfl, hresume⟩⟩
    · exact old hw
  · exact fun ha => (relevel (h.restore ha).2.2).trans (h.restore ha).1
  · exact fun hu => absurd (h.configured hu).2 (by simp [moving])

/-- A resume that unwinds above OFF came from a sleeping state above it. -/
theorem source_of_isResume {r : Record} (fits : kindFits r.kind r.source r.target = true)
    (h : r.kind.isResume = true) (hoff : r.source ≠ .off) : r.source = .doze ∨ r.source = .hibernate := by
  revert fits h hoff
  cases r.kind <;> cases r.source <;> cases r.target <;> simp [kindFits, Kind.isResume]

/-- A downward transition from WORKING is a DOZE_IN or a DOWN. -/
theorem kind_of_downward {r : Record} (fits : kindFits r.kind r.source r.target = true)
    (h : r.kind.isDownward = true) (hw : r.source = .working) : r.kind = .dozeIn ∨ r.kind = .down := by
  revert fits h hw
  cases r.kind <;> cases r.source <;> cases r.target <;> simp [kindFits, Kind.isDownward]

theorem EngineLaw.undone (h : EngineLaw u b) (hp : b.phase = .reversing) {r : Record} (hr : b.record = some r)
    {nodes : Vector Node 20} : EngineLaw u { endReversing e b with nodes := nodes } := by
  have moving : b.phase.inTransition = true := by rw [hp]; rfl
  obtain ⟨_, source, fits, first⟩ := (recordInv_some hr).mp h.record
  refine engineLaw_closed ?_ ?_ ?_ ?_ ?_ ?_ ?_ ?_ ?_ ?_ ?_ ?_ <;> simp only [endReversing, hr]
  · rfl
  · rfl
  · exact h.uncaused (by rw [hp]; nofun)
  · exact ⟨rfl, rfl⟩
  · exact congrArg some source
  · by_cases hdrop : r.kind.isResume ∧ counterAfterUnwind b r = 3 ∧ r.source ≠ .off
    · have ⟨hresume, _, hoff⟩ := hdrop
      exact followOnInv_drop (if_pos hdrop) (source ▸ source_of_isResume fits hresume hoff) nofun
    · exact followOnInv_none (if_neg hdrop)
  · exact fun hl => (h.lockout hl).1
  · exact fun hd => (h.dwell.1 hd).1
  · exact h.dwell.2
  · intro d a w k o hw
    have old (hw : b.watchdog = .armed d a w k o) := by
      obtain ⟨hworking, _, _, hlow, hout⟩ := h.watchdog d a w k o hw
      exact (⟨hworking, hlow, hout⟩ : b.platform = .working ∧ 1000 ≤ d
        ∧ ((o = .completed ∧ k.isResume = true) ∨ (o = .reversed ∧ (k = .dozeIn ∨ k = .down))))
    split at hw
    · rename_i habsorbs
      rw [Bool.and_eq_true, beq_iff_eq] at habsorbs
      obtain ⟨hdown, hworking⟩ := habsorbs
      rcases armWatchdog_cases hw with hw | ⟨hlow, rfl, rfl⟩
      · exact old hw
      · exact ⟨source ▸ hworking, hlow, .inr ⟨rfl, kind_of_downward fits hdown hworking⟩⟩
    · exact old hw
  · exact fun ha => (h.restore ha).1
  · exact fun hu => (h.configured hu).1

theorem EngineLaw.drained (h : EngineLaw u b) (hp : b.phase = .draining) {r : Record} (hr : b.record = some r)
    {nodes : Vector Node 20} : EngineLaw u { endEmergency e b with nodes := nodes } := by
  have nothing : b.followOn = none := by
    have follow := h.followOn
    unfold FollowOnInv at follow
    split at follow
    · assumption
    all_goals exact absurd hp follow.2
  have disarmed : b.watchdog = .disarmed := by
    cases hw : b.watchdog with
    | disarmed => rfl
    | armed d a w k o => exact absurd hp (h.watchdog d a w k o hw).2.1
  have undwelt : b.dwell = .none := by
    by_contra hd
    exact (h.dwell.1 hd).2.1 hp
  simp only [endEmergency, hr]
  split
  all_goals
    refine engineLaw_closed rfl rfl ⟨rfl, rfl⟩ ⟨rfl, rfl⟩ rfl ?_ (fun _ => rfl) (fun hd => absurd undwelt hd) ?_ ?_
      (fun _ => rfl) fun _ => rfl
    · exact followOnInv_none nothing
    · exact h.dwell.2
    · intro d a w k o hw
      exact absurd (disarmed.symm.trans hw) nofun

theorem EngineLaw.claim (h : EngineLaw u b) {follow : Option FollowOn} {recovery : Bool} {wakes : List SourceId}
    {ac : Bool} (lapses : follow = b.followOn ∨ follow = none) (cleared : ac = true → b.acRestore = true) :
    EngineLaw u { b with followOn := follow, recovery := recovery, wakes := wakes, acRestore := ac } := by
  refine ⟨h.record, h.emergency, h.marks, h.last, ?_, h.lockout, h.dwell, h.watchdog, fun ha => h.restore (cleared ha),
    h.configured⟩
  rcases lapses with rfl | rfl
  · exact h.followOn
  · exact followOnInv_none rfl

/-- One phase of a transition after another. -/
theorem EngineLaw.rephase (h : EngineLaw u b) (moving : b.phase.inTransition = true) {p : Phase}
    (hp : p.inTransition = true) {issue : List Action} {empty test held : Bool} :
    EngineLaw u { b with phase := p, issue := issue, emptyChange := empty, blockTest := test, held := held } := by
  have undrained : b.phase ≠ .draining := fun h => by rw [h] at moving; cases moving
  have undrained' : p ≠ .draining := fun h => by rw [h] at hp; cases hp
  have unidle : p ≠ .idle := fun h => by rw [h] at hp; cases hp
  have relevel (ho : onlyRelevel b) : onlyRelevel { b with
      phase := p, issue := issue, emptyChange := empty, blockTest := test, held := held } := fun _ => ho moving
  refine ⟨?_, ?_, ⟨fun hrev => ⟨hp, (h.marks.1 hrev).2⟩, fun m hm => ?_⟩, h.last, h.followOn.keep rfl rfl undrained',
    fun hl => ⟨(h.lockout hl).1, relevel (h.lockout hl).2⟩, ⟨fun hd => ?_, h.dwell.2⟩, fun d a w k o hw => ?_,
    fun ha => ?_, fun hu => absurd (h.configured hu).2 (by simp [moving])⟩
  · cases hr : b.record with
    | none =>
      have := h.idle_of_unrecorded hr
      rw [this] at moving
      cases moving
    | some r => exact (recordInv_some rfl).mpr ⟨unidle, ((recordInv_some hr).mp h.record).2⟩
  · obtain ⟨hcause, hthermal⟩ := h.uncaused undrained
    unfold EmergencyInv
    simp [hcause, hthermal, undrained']
  · obtain ⟨hlow, hhigh, _, hk⟩ := h.marks.2 m hm
    exact ⟨hlow, hhigh, hp, hk⟩
  · obtain ⟨hdoze, _, ho⟩ := h.dwell.1 hd
    exact ⟨hdoze, undrained', relevel ho⟩
  · obtain ⟨hworking, _, ho, hrest⟩ := h.watchdog d a w k o hw
    exact ⟨hworking, undrained', relevel ho, hrest⟩
  · obtain ⟨hoff, _, ho⟩ := h.restore ha
    exact ⟨hoff, undrained', relevel ho⟩

/-- An idle engine returns to IDLE. -/
theorem EngineLaw.idled (h : EngineLaw u b) (hp : b.phase = .idle) {nodes : Vector Node 20} :
    EngineLaw u { returnToIdle b with nodes := nodes } := by
  have undrained : b.phase ≠ .draining := by rw [hp]; nofun
  refine engineLaw_closed rfl rfl (h.uncaused undrained) ⟨rfl, rfl⟩ h.last (h.followOn.keep rfl rfl nofun)
    (fun hl => (h.lockout hl).1) (fun hd => (h.dwell.1 hd).1) h.dwell.2 (fun d a w k o hw => ?_)
    (fun ha => (h.restore ha).1) fun hu => (h.configured hu).1
  obtain ⟨hworking, _, _, hrest⟩ := h.watchdog d a w k o hw
  exact ⟨hworking, hrest⟩

/-- Every move of the engine keeps the laws of the engine. -/
theorem EngineLaw.engine (h : EngineMove e b t) (hb : EngineLaw e.unconfigured b) : EngineLaw e.unconfigured t := by
  cases h with
  | blame i k replaces => exact hb.blame i k replaces
  | spoil keep =>
    refine ⟨hb.record, hb.emergency, ⟨fun hrev => hb.marks.1 ?_, hb.marks.2⟩, hb.last, hb.followOn, hb.lockout, hb.dwell,
      hb.watchdog, hb.restore, hb.configured⟩
    exact (Bool.and_eq_true_iff.mp hrev).1
  | raise lowering => exact hb.rephase (by rw [lowering]; rfl) rfl
  | reverse moving => exact hb.rephase moving rfl
  | drain cause fault => exact hb.drain cause fault
  | start kind target origin wake dwell empty idle configured fits unlocked first dwells =>
    exact hb.start idle configured fits unlocked first dwells
  | giveUp unrecorded => exact hb.idled (hb.idle_of_unrecorded unrecorded)
  | complete raising r recorded => exact hb.complete raising recorded
  | undone reversing r recorded => exact hb.undone reversing recorded
  | drained draining r recorded => exact hb.drained draining recorded
  | lock idle off =>
    have rest : (setLockout b .resume).phase.inTransition = false := by rw [setLockout_phase, idle]; rfl
    exact ⟨hb.record, hb.emergency, hb.marks, hb.last, hb.followOn, fun _ => ⟨off, onlyRelevel_of_rest rest⟩,
      hb.dwell, hb.watchdog, nofun, hb.configured⟩
  | unlock =>
    exact ⟨hb.record, hb.emergency, hb.marks, hb.last, hb.followOn, fun hl => absurd rfl hl, hb.dwell, hb.watchdog,
      hb.restore, hb.configured⟩
  | claim follow recovery wakes ac lapses sub cleared => exact hb.claim lapses cleared
  | restore ac idle off =>
    exact ⟨hb.record, hb.emergency, hb.marks, hb.last, hb.followOn, hb.lockout, hb.dwell, hb.watchdog,
      fun _ => ⟨off, by rw [idle]; nofun, onlyRelevel_of_rest (by rw [idle]; rfl)⟩, hb.configured⟩
  | wake r id recorded => exact hb.sameRow recorded ⟨rfl, rfl, rfl, rfl⟩
  | thermal draining =>
    exact ⟨hb.record, ⟨hb.emergency.1, fun _ => draining⟩, hb.marks, hb.last, hb.followOn, hb.lockout, hb.dwell,
      hb.watchdog, hb.restore, hb.configured⟩
  | dwelt m t running =>
    exact ⟨hb.record, hb.emergency, hb.marks, hb.last, hb.followOn, hb.lockout,
      ⟨fun _ => hb.dwell.1 (by rw [running]; nofun), nofun⟩, hb.watchdog, hb.restore, hb.configured⟩
  | disarm =>
    exact ⟨hb.record, hb.emergency, hb.marks, hb.last, hb.followOn, hb.lockout, hb.dwell, nofun, hb.restore,
      hb.configured⟩
  | warn deadline at_ warned kind outcome armed =>
    refine ⟨hb.record, hb.emergency, hb.marks, hb.last, hb.followOn, hb.lockout, hb.dwell, fun d a w k o hw => ?_,
      hb.restore, hb.configured⟩
    simp only [Watchdog.armed.injEq] at hw
    obtain ⟨rfl, rfl, _, rfl, rfl⟩ := hw
    exact hb.watchdog _ _ _ _ _ armed
  | _ =>
    exact ⟨hb.record, hb.emergency, hb.marks, hb.last, hb.followOn, hb.lockout, hb.dwell, hb.watchdog, hb.restore,
      hb.configured⟩
theorem EngineLaw.move (h : Move e b t) (hb : EngineLaw e.unconfigured b) : EngineLaw e.unconfigured t := by
  cases h with
  | switch h =>
    rw [h.frame]
    exact ⟨hb.record, hb.emergency, hb.marks, hb.last, hb.followOn, hb.lockout, hb.dwell, hb.watchdog, hb.restore,
      hb.configured⟩
  | engine h => exact hb.engine h

end

end Sys2Proof.Machine
end

section
/-! SUPPORT. The engine's laws under every piece of work. -/

namespace Sys2Proof.Machine

/-- The laws hold of a board that is as after part reset but for its slots, lines, lockout and notices (R1, R23). -/
theorem engineLaw_reset {u : Bool} {nodes : Vector Node 20} {outs : Vector Drive 16} {lockout : Lockout}
    {notices : List NoticeEntry} :
    EngineLaw u { Board.reset with nodes := nodes, outs := outs, lockout := lockout, notices := notices } where
  record := rfl
  emergency := ⟨⟨nofun, nofun⟩, nofun⟩
  marks := ⟨nofun, nofun⟩
  last := rfl
  followOn := trivial
  lockout := fun _ => ⟨rfl, onlyRelevel_of_rest rfl⟩
  dwell := ⟨fun hd => absurd rfl hd, nofun⟩
  watchdog := nofun
  restore := nofun
  configured := fun _ => ⟨rfl, rfl⟩

theorem EngineLaw.work {s t : State} (h : Work s t) (hs : EngineLaw s.store.unconfigured s.board) :
    EngineLaw t.store.unconfigured t.board := by
  have kept (b : Board) (notices : List NoticeEntry) (listedNow : List Slot) (stepHold u : Bool)
      (hb : EngineLaw u b) : EngineLaw u { b with notices := notices, listedNow := listedNow, stepHold := stepHold } :=
    ⟨hb.record, hb.emergency, hb.marks, hb.last, hb.followOn, hb.lockout, hb.dwell, hb.watchdog, hb.restore,
      hb.configured⟩
  cases h with
  | aside frame => rw [frame]; exact hs
  | board moves => exact moves.keep (fun _ _ => EngineLaw.move) hs
  | reset held => exact engineLaw_reset
  | load pins => rw [loadedState_board]; exact engineLaw_reset
  | order q perm => exact kept _ _ _ _ _ hs
  | read f same => exact kept _ _ _ _ _ hs
  | drop p => exact kept _ _ _ _ _ hs
  | stepHold on still => exact kept _ _ _ _ _ hs
  | config cfg nodes => exact hs
  | put i rec passes =>
    exact ⟨hs.record, hs.emergency, hs.marks, hs.last, hs.followOn, hs.lockout, hs.dwell, hs.watchdog, hs.restore,
      hs.configured⟩
  | save job content => exact hs
  | saved job saving readsBack =>
    exact ⟨hs.record, hs.emergency, hs.marks, hs.last, hs.followOn, hs.lockout, hs.dwell, hs.watchdog, hs.restore,
      fun hu => hs.configured (Bool.and_eq_true_iff.mp hu).1⟩

/-- The laws of the engine as the statement has them. -/
theorem engineInv_iff (s : State) : EngineInv s ↔ EngineLaw s.store.unconfigured s.board :=
  ⟨fun ⟨record, emergency, marks, last, followOn, lockout, dwell, watchdog, restore, configured⟩ =>
    ⟨record, emergency, marks, last, followOn, lockout, dwell, watchdog, restore, configured⟩,
  fun h => ⟨h.record, h.emergency, h.marks, h.last, h.followOn, h.lockout, h.dwell, h.watchdog, h.restore,
    h.configured⟩⟩

end Sys2Proof.Machine
end

section
/-! SETTLEMENT. The laws of the engine. -/

namespace Sys2Proof.Machine

/-- Settles O55: every move of the engine keeps all ten laws together, and so does every other piece of work. -/
theorem engineLawsAreKept : Obligations.EngineLawsAreKept := by
  unfold Obligations.EngineLawsAreKept
  intro s t hs hstep
  exact (engineInv_iff t).mpr (step_keep (P := fun s => EngineLaw s.store.unconfigured s.board)
    (fun _ _ => EngineLaw.work) (fun _ _ => id) (fun _ _ => id) ((engineInv_iff s).mp hs) hstep)

end Sys2Proof.Machine
end

section
/-! SUPPORT. The switch's context of every slot and the budget in use under every move and every piece of work. -/

namespace Sys2Proof.Machine

/-! ### The context of one slot (R54, R78) -/

/-- The bad count runs on over changes between states that are not at rest off. -/
theorem badRunsOn_of_isDown {n st : NodeState} (h : st.isDown = true) : badRunsOn n st = false := by
  cases st with
  | off | faulted k => cases n <;> simp [badRunsOn]
  | _ => cases h

/-- A change of node state leaves a context that fits the new state. -/
theorem NodeInv.withState {n : Node} (h : NodeInv n) {st : NodeState} {dl : Option Deadline}
    (timed : dl.map Deadline.kind = st.deadlineKind) : NodeInv (n.withState st dl) := by
  obtain ⟨_, _, ⟨_, _, hbad, _⟩, _, _⟩ := h
  refine ⟨timed, fun hdown => ?_, ⟨Nat.zero_le _, Nat.zero_le _, ?_, Nat.zero_le _⟩, fun hun => ?_, fun hcharge => ?_⟩
  · change st.isDown = true at hdown
    simp [Node.withState, hdown, badRunsOn_of_isDown]
  · simp only [Node.withState]
    split
    · exact hbad
    · exact Nat.zero_le _
  · simp only [Node.withState, Bool.and_eq_true, beq_iff_eq] at hun
    exact hun.2
  · simp only [Node.withState] at hcharge
    split at hcharge
    · assumption
    · exact absurd rfl hcharge

theorem NodeInv.charge_eq_zero {n : Node} (h : NodeInv n) (hst : n.state ≠ .ramping) : n.charge = 0 := by
  by_contra hc
  exact hst (h.2.2.2.2 hc)

/-- What a slot's change of state takes from the budget in use is what it takes from its charge. -/
theorem releasedBudget_add {n : Node} (h : NodeInv n) (st : NodeState) (dl : Option Deadline) {inUse : Nat}
    (hle : n.charge ≤ inUse) : releasedBudget inUse n st + n.charge = inUse + (n.withState st dl).charge := by
  unfold releasedBudget Node.withState
  by_cases hn : n.state = .ramping
  · by_cases hst : st = .ramping
    · simp [hst]
    · simp [hn, hst, Nat.sub_add_cancel hle]
  · simp [hn, h.charge_eq_zero hn]

/-! ### The switch (R54, R75, R78) -/

/-- Every slot's context fits its state, no deadline runs on a NONE slot, and the budget in use is what is charged. -/
structure SwitchLaw (cfg : WorkingConfig) (b : Board) : Prop where
  context : ∀ i, NodeInv (b.node i)
  untimed : ∀ i, cfg.node i = none → (b.stateOf i).deadlineKind = none
  total : b.inUse = (slots.map (fun i => (b.node i).charge)).sum

theorem switchInv_iff (s : State) : SwitchInv s ↔ SwitchLaw s.cfg s.board :=
  ⟨fun ⟨context, untimed, total⟩ => ⟨context, untimed, total⟩, fun h => ⟨h.context, h.untimed, h.total⟩⟩

section
variable {cfg : WorkingConfig} {b t : Board}

theorem SwitchLaw.charge_le (h : SwitchLaw cfg b) (i : Slot) : (b.node i).charge ≤ b.inUse := by
  rw [h.total]
  exact List.le_sum_of_mem (List.mem_map_of_mem (mem_slots i))

/-- One slot changes, and the budget in use goes along with its charge. -/
theorem SwitchLaw.of_onlySlot {table : WorkingConfig} (h : SwitchLaw cfg b) {i : Slot} (only : OnlySlot i b t)
    (elsewhere : ∀ j, j ≠ i → table.node j = cfg.node j) (context : NodeInv (t.node i))
    (untimed : table.node i = none → (t.stateOf i).deadlineKind = none)
    (total : t.inUse + (b.node i).charge = b.inUse + (t.node i).charge) : SwitchLaw table t where
  context j := by
    by_cases hj : j = i
    · rw [hj]; exact context
    · rw [only j hj]; exact h.context j
  untimed j hn := by
    by_cases hj : j = i
    · rw [hj] at hn ⊢; exact untimed hn
    · unfold Board.stateOf; rw [only j hj]; exact h.untimed j (elsewhere j hj ▸ hn)
  total := by
    have sum := sum_charge_onlySlot only
    have := h.total
    omega

/-- Slots change, each keeping its state and its charge. -/
theorem SwitchLaw.remarked (h : SwitchLaw cfg b) (kept : ∀ i, (b.node i).Remarked (t.node i)) (hu : t.inUse = b.inUse) :
    SwitchLaw cfg t where
  context i := (kept i).2 (h.context i)
  untimed i hn := by unfold Board.stateOf; rw [(kept i).1.1]; exact h.untimed i hn
  total := by
    rw [hu, h.total]
    congr 1
    exact List.map_congr_left fun i _ => ((kept i).1.2).symm

theorem SwitchLaw.enter (h : SwitchLaw cfg b) {i : Slot} {st : NodeState} {dl : Option Deadline}
    (timed : dl.map Deadline.kind = st.deadlineKind) (bound : cfg.node i = none → st.deadlineKind = none) :
    SwitchLaw cfg (enter cfg b i st dl) := by
  refine h.of_onlySlot (onlySlot_enter cfg b i st dl) (fun _ _ => rfl) ?_ ?_ ?_
  · rw [node_enter_self]; exact (h.context i).withState timed
  · rw [stateOf_enter_self]; exact bound
  · rw [enter_inUse, node_enter_self]
    exact releasedBudget_add (h.context i) st dl (h.charge_le i)

/-- A grant leaves its slot's state where the slot is NONE, and puts it into RAMPING where it has a record. -/
theorem node_grantCharge_cases (e : Env) (b : Board) (i : Slot) :
    (e.cfg.node i = none ∧ (grantCharge e b i).node i = { b.node i with charge := 0 })
      ∨ (e.cfg.node i ≠ none ∧ ∃ dl : Deadline, dl.kind = .ramp ∧ (grantCharge e b i).node i
          = { (b.node i).withState .ramping (some dl) with charge := e.cfg.weight i }) := by
  rw [node_grantCharge_self]
  unfold toRamping Node.withCharge
  split
  · rename_i hn; exact .inl ⟨hn, by simp only [WorkingConfig.weight, hn]⟩
  · rename_i r hr
    exact .inr ⟨by rw [hr]; nofun, _, rfl, by rw [node_enter_self]⟩

theorem inUse_grantCharge {e : Env} {i : Slot} (h : b.stateOf i ≠ .ramping) :
    (grantCharge e b i).inUse = b.inUse + e.cfg.weight i := by
  have ramped : (toRamping e b i).inUse = b.inUse := by
    unfold toRamping
    split
    · rfl
    · rw [enter_inUse]
      exact if_neg fun hr => h hr.1
  show (toRamping e b i).inUse + _ = _
  rw [ramped]

theorem SwitchLaw.grantCharge {e : Env} (h : SwitchLaw e.cfg b) {i : Slot} (queued : b.stateOf i = .queued) :
    SwitchLaw e.cfg (Machine.grantCharge e b i) := by
  have unramped : b.stateOf i ≠ .ramping := by rw [queued]; nofun
  have uncharged : (b.node i).charge = 0 := (h.context i).charge_eq_zero unramped
  have total : (Machine.grantCharge e b i).inUse + (b.node i).charge
      = b.inUse + ((Machine.grantCharge e b i).node i).charge := by
    rw [inUse_grantCharge unramped, charge_grantCharge, uncharged]
    rfl
  refine h.of_onlySlot (onlySlot_grantCharge e b i) (fun _ _ => rfl) ?_ (fun hn => ?_) total
  · obtain ⟨hdl, hdown, hcount, hun, hcharge⟩ := h.context i
    rcases node_grantCharge_cases e b i with ⟨_, hnode⟩ | ⟨_, dl, hk, hnode⟩ <;> rw [hnode]
    · exact ⟨hdl, hdown, hcount, hun, fun hc => absurd rfl hc⟩
    · obtain ⟨hdl', hdown', hcount', hun', _⟩ := (h.context i).withState (st := .ramping) (dl := some dl) (by simp [hk, NodeState.deadlineKind])
      exact ⟨hdl', hdown', hcount', hun', fun _ => rfl⟩
  · rcases node_grantCharge_cases e b i with ⟨_, hnode⟩ | ⟨hr, _⟩
    · unfold Board.stateOf
      rw [hnode]
      exact h.untimed i hn
    · exact absurd hn hr

theorem SwitchLaw.move {e : Env} (h : Move e b t) (hb : SwitchLaw e.cfg b) : SwitchLaw e.cfg t := by
  cases h with
  | switch h =>
    cases h with
    | enter i st dl timed bound => exact hb.enter timed bound
    | remark frame kept => exact hb.remarked kept (by rw [frame])
    | grant i queued => exact hb.grantCharge queued
  | engine h =>
    obtain ⟨hnodes, _, hinUse⟩ := h.slots_eq
    have same (i : Slot) : t.node i = b.node i := by unfold Board.node; rw [hnodes]
    exact hb.remarked (fun i => by rw [same i]; exact .refl _) hinUse

/-- The table may change where it has the same records. -/
theorem SwitchLaw.retable (h : SwitchLaw cfg b) {table : WorkingConfig} (nodes : table.nodes = cfg.nodes) :
    SwitchLaw table b :=
  ⟨h.context, fun i hn => h.untimed i (by unfold WorkingConfig.node at hn ⊢; rwa [← nodes]), h.total⟩

/-! ### A put (R47) -/

theorem NodeInv.restartCounters {n : Node} (h : NodeInv n) : NodeInv n.restartCounters := by
  obtain ⟨hdl, hdown, hcount, hun, hcharge⟩ := h
  unfold Node.restartCounters
  split
  iterate 4
    exact ⟨hdl, fun hd => ⟨(hdown hd).1, (hdown hd).2.1, (hdown hd).2.2.1, rfl, rfl, rfl, rfl⟩,
      ⟨Nat.zero_le _, Nat.zero_le _, Nat.zero_le _, Nat.zero_le _⟩, hun, hcharge⟩
  all_goals exact ⟨hdl, hdown, hcount, hun, hcharge⟩

/-- A put keeps a slot's context; it takes a slot to OFF for kind NONE, and leaves the state of any other but a FAULTED
one (R47). -/
theorem NodeInv.afterPut {n : Node} (h : NodeInv n) (old new : Option NodeRecord) : NodeInv (n.afterPut old new) := by
  have kept : NodeInv (n.restartCounters.stateAfterPut old new) := by
    unfold Node.stateAfterPut
    split
    · exact h.restartCounters.withState rfl
    · exact h.restartCounters
  obtain ⟨hdl, hdown, hcount, hun, hcharge⟩ := kept
  unfold Node.afterPut Node.forgetSample
  split <;> exact ⟨hdl, hdown, hcount, hun, hcharge⟩

/-- A put takes its slot to OFF (R47). -/
def Node.putsOff (n : Node) (old new : Option NodeRecord) : Bool :=
  new.isNone || (n.state.isFaulted && structuralChange old new)

@[simp] theorem restartCounters_state (n : Node) : n.restartCounters.state = n.state := by
  unfold Node.restartCounters
  split <;> rfl

@[simp] theorem restartCounters_charge (n : Node) : n.restartCounters.charge = n.charge := by
  unfold Node.restartCounters
  split <;> rfl

theorem state_afterPut (n : Node) (old new : Option NodeRecord) :
    (n.afterPut old new).state = if n.putsOff old new then .off else n.state := by
  have forget : (n.afterPut old new).state = (n.restartCounters.stateAfterPut old new).state := by
    unfold Node.afterPut Node.forgetSample
    split <;> rfl
  rw [forget]
  unfold Node.stateAfterPut Node.putsOff
  rw [restartCounters_state]
  split
  · rfl
  · exact restartCounters_state n

theorem charge_afterPut (n : Node) (old new : Option NodeRecord) :
    (n.afterPut old new).charge = if n.putsOff old new then 0 else n.charge := by
  have forget : (n.afterPut old new).charge = (n.restartCounters.stateAfterPut old new).charge := by
    unfold Node.afterPut Node.forgetSample
    split <;> rfl
  rw [forget]
  unfold Node.stateAfterPut Node.putsOff
  rw [restartCounters_state]
  split
  · rfl
  · exact restartCounters_charge n

/-- A put that passes its checks finds the slot at rest off where it changes a structural field (R45). -/
theorem isDown_of_passes {i : Slot} {rec : Option NodeRecord} (passes : putRefusal cfg b i rec = none)
    (change : structuralChange (cfg.node i) rec = true) : (b.stateOf i).isDown = true := by
  unfold putRefusal at passes
  split_ifs at passes with _ _ _ _ live
  simpa [change] using live

theorem uncharged_of_isDown {n : Node} (h : NodeInv n) (hd : n.state.isDown = true) : n.charge = 0 :=
  h.charge_eq_zero fun hr => by rw [hr] at hd; cases hd

/-- A slot that a put leaves without a record had no charge. -/
theorem uncharged_of_passes (h : SwitchLaw cfg b) {i : Slot} (passes : putRefusal cfg b i none = none) :
    (b.node i).charge = 0 := by
  cases hn : cfg.node i with
  | none =>
    refine (h.context i).charge_eq_zero fun hr => ?_
    have untimed := h.untimed i hn
    unfold Board.stateOf at untimed
    rw [hr] at untimed
    cases untimed
  | some r => exact uncharged_of_isDown (h.context i) (isDown_of_passes passes (by rw [hn]; rfl))

/-- A put that passes its checks leaves the slot's charge. -/
theorem charge_afterPut_of_passes (h : SwitchLaw cfg b) {i : Slot} {rec : Option NodeRecord}
    (passes : putRefusal cfg b i rec = none) :
    ((b.node i).afterPut (cfg.node i) (rec.map clampNode)).charge = (b.node i).charge := by
  rw [charge_afterPut]
  split
  · rename_i hoff
    symm
    cases rec with
    | none => exact uncharged_of_passes h passes
    | some r =>
      simp only [Node.putsOff, Option.map_some, Option.isNone_some, Bool.false_or, Bool.and_eq_true] at hoff
      refine (h.context i).charge_eq_zero fun hr => ?_
      rw [hr] at hoff
      cases hoff.1
  · rfl

theorem node_putNode_self (s : State) (i : Slot) (rec : Option NodeRecord) :
    (s.putNode i rec).board.node i = (s.board.node i).afterPut (s.cfg.node i) rec :=
  node_updNode_self s.board i fun n => n.afterPut (s.cfg.node i) rec

theorem onlySlot_putNode (s : State) (i : Slot) (rec : Option NodeRecord) :
    OnlySlot i s.board (s.putNode i rec).board :=
  fun j hj => node_updNode_ne s.board i j (fun n => n.afterPut (s.cfg.node i) rec) hj

theorem cfg_putNode (s : State) (i : Slot) (rec : Option NodeRecord) : (s.putNode i rec).cfg = s.cfg.putNode i rec := rfl

theorem SwitchLaw.put {s : State} (h : SwitchLaw s.cfg s.board) {i : Slot} {rec : Option NodeRecord}
    (passes : putRefusal s.cfg s.board i rec = none) :
    SwitchLaw (s.putNode i (rec.map clampNode)).cfg (s.putNode i (rec.map clampNode)).board := by
  refine h.of_onlySlot (onlySlot_putNode s i _) (fun j hj => ?_) ?_ (fun hn => ?_) ?_
  · rw [cfg_putNode, node_putNode, if_neg hj]
  · rw [node_putNode_self]; exact (h.context i).afterPut _ _
  · rw [cfg_putNode, node_putNode, if_pos rfl] at hn
    have off : (s.putNode i (rec.map clampNode)).board.stateOf i = .off := by
      unfold Board.stateOf
      rw [node_putNode_self, state_afterPut, hn]
      rfl
    rw [off]
    rfl
  · rw [node_putNode_self, charge_afterPut_of_passes h passes]
    rfl

/-- Slots as part reset and the load event leave them: OFF, with nothing charged (R30, R39). -/
theorem switchLaw_rest (h : ∀ i, b.node i = { Node.reset with retriesLeft := (b.node i).retriesLeft })
    (total : b.inUse = 0) : SwitchLaw cfg b where
  context i := by
    rw [h i]
    exact ⟨rfl, fun _ => ⟨rfl, rfl, rfl, rfl, rfl, rfl, rfl⟩,
      ⟨Nat.zero_le _, Nat.zero_le _, Nat.zero_le _, Nat.zero_le _⟩, nofun, fun hc => absurd rfl hc⟩
  untimed i _ := by unfold Board.stateOf; rw [h i]; rfl
  total := by
    rw [total, List.map_congr_left (g := fun _ => 0) fun i _ => by rw [h i]; rfl]
    simp

theorem node_reset (i : Slot) : Board.reset.node i = Node.reset := by
  simp [Board.node, Board.reset, Vector.get_eq_getElem]

theorem node_loadedBoard (table : WorkingConfig) (result : StoreResult) (hot : Bool) (i : Slot) :
    (loadedBoard table result hot).node i = loadedNode table i := by
  simp [loadedBoard, Board.node, Vector.get_eq_getElem]

end

theorem SwitchLaw.work {s t : State} (h : Work s t) (hs : SwitchLaw s.cfg s.board) : SwitchLaw t.cfg t.board := by
  cases h with
  | aside frame => rw [frame]; exact hs
  | board moves => exact moves.keep (fun _ _ => SwitchLaw.move) hs
  | reset held => exact switchLaw_rest (fun i => node_reset i ▸ rfl) rfl
  | load pins =>
    rw [loadedState_board]
    exact switchLaw_rest (fun i => node_loadedBoard _ _ _ i ▸ rfl) rfl
  | order q perm => exact ⟨hs.context, hs.untimed, hs.total⟩
  | read f same => exact ⟨hs.context, hs.untimed, hs.total⟩
  | drop p => exact ⟨hs.context, hs.untimed, hs.total⟩
  | stepHold on still => exact ⟨hs.context, hs.untimed, hs.total⟩
  | config cfg nodes => exact hs.retable nodes
  | put i rec passes => exact hs.put passes
  | save job content => exact hs
  | saved job saving readsBack => exact hs

end Sys2Proof.Machine
end

section
/-! SETTLEMENT. The laws of the switch. -/

namespace Sys2Proof.Machine

/-- Settles O56: a move of the switch keeps each slot's context and takes from the budget what it takes from a charge;
every other piece of work leaves slots and charges, but for a put, which changes one uncharged slot. -/
theorem switchLawsAreKept : Obligations.SwitchLawsAreKept := by
  unfold Obligations.SwitchLawsAreKept
  intro s t hs hstep
  exact (switchInv_iff t).mpr (step_keep (P := fun s => SwitchLaw s.cfg s.board) (fun _ _ => SwitchLaw.work)
    (fun _ _ => id) (fun _ _ => id) ((switchInv_iff s).mp hs) hstep)

end Sys2Proof.Machine
end

section
/-! SUPPORT. The stored image: where its blocks lie, and that a load reads back what a SAVE wrote (R201, R202). -/

namespace Sys2Proof.Machine

/-! ### Lists of blocks of one length -/

/-- A block of a list of blocks of one length. -/
theorem block_of_flatMap {α β : Type} {f : α → List β} {k : Nat} (rest : List β) :
    ∀ (l : List α), (∀ a ∈ l, (f a).length = k) → ∀ (i : Nat) (hi : i < l.length),
      ((l.flatMap f ++ rest).drop (k * i)).take k = f l[i] := by
  intro l
  induction l with
  | nil => intro _ i hi; exact absurd hi (Nat.not_lt_zero i)
  | cons a l ih =>
    intro hk i hi
    have ha : (f a).length = k := hk a List.mem_cons_self
    rw [List.flatMap_cons, List.append_assoc]
    cases i with
    | zero => rw [Nat.mul_zero, List.drop_zero, List.take_append_of_le_length (Nat.le_of_eq ha.symm), ← ha,
        List.take_length, List.getElem_cons_zero]
    | succ i =>
      have tail : (f a ++ (l.flatMap f ++ rest)).drop (k * (i + 1)) = (l.flatMap f ++ rest).drop (k * i) := by
        rw [Nat.mul_succ, Nat.add_comm, ← List.drop_drop, ← ha, List.drop_left]
      rw [tail, ih (fun c hc => hk c (List.mem_cons_of_mem a hc)) i (Nat.lt_of_succ_lt_succ hi), List.getElem_cons_succ]

theorem length_flatMap_blocks {α β : Type} {f : α → List β} {k : Nat} (l : List α) (h : ∀ a ∈ l, (f a).length = k) :
    (l.flatMap f).length = l.length * k := by
  rw [List.length_flatMap, List.map_congr_left h]
  simp

/-! ### Lengths -/

/-- The four prerequisite bytes. -/
theorem prereqBytes_length (l : List Slot) : (prereqBytes l).length = 4 := by simp [prereqBytes]

theorem recordBytes_length_le (i : Slot) (rec : Option NodeRecord) : (recordBytes i rec).length ≤ 32 := by
  cases rec with
  | none => exact Nat.le_of_ble_eq_true rfl
  | some r =>
    have rails : (railBytes r.body).length = 2 := by cases r.body <;> rfl
    have window : (windowPart r.body).length ≤ 10 := by rcases r.body with ⟨_ | _ | _, _, _, _⟩ | _ | _ <;> simp [windowPart, windowBytes, byte2]
    simp only [recordBytes, List.length_append, List.length_cons, List.length_nil, prereqBytes_length, rails, byte2]
    omega

theorem storedRecord_length (cfg : WorkingConfig) (i : Slot) : (storedRecord cfg i).length = 32 := by
  have := recordBytes_length_le i (cfg.node i)
  simp only [storedRecord, List.length_append, List.length_replicate]
  omega

theorem sourceBlock_length (cfg : WorkingConfig) (id : SourceId) :
    (byte1 id.val :: sourceFields cfg id).length = 9 := by
  unfold sourceFields
  split_ifs <;> rfl

/-! ### The blocks of an image -/

section
variable (cfg : WorkingConfig)

/-- The image in its parts. -/
theorem encodeImage_eq : encodeImage cfg = marker ++ (slots.flatMap (storedRecord cfg)
    ++ (sourceIds.flatMap (fun id => byte1 id.val :: sourceFields cfg id)
      ++ (settingsBytes cfg.settings ++ bytesOfHalf (crc16 (imageBody cfg))))) := by
  simp only [encodeImage, imageBody, List.append_assoc]

theorem records_length : (slots.flatMap (storedRecord cfg)).length = 640 :=
  length_flatMap_blocks slots fun i _ => storedRecord_length cfg i

theorem sources_length : (sourceIds.flatMap (fun id => byte1 id.val :: sourceFields cfg id)).length = 90 :=
  length_flatMap_blocks sourceIds fun id _ => sourceBlock_length cfg id

theorem imageBody_length : (imageBody cfg).length = 740 := by
  simp only [imageBody, List.length_append, records_length, sources_length]
  rfl

theorem encodeImage_length : (encodeImage cfg).length = 742 := by
  rw [encodeImage, List.length_append, imageBody_length]
  rfl

theorem recordChunk_encodeImage (i : Slot) : recordChunk (encodeImage cfg) i = storedRecord cfg i := by
  have hi : slots[i.val]'i.isLt = i := by revert i; decide
  rw [recordChunk, encodeImage_eq, ← List.drop_drop, show (2 : Nat) = marker.length from rfl, List.drop_left,
    block_of_flatMap _ slots (fun i _ => storedRecord_length cfg i) i.val i.isLt, hi]

theorem sourceChunk_encodeImage (id : SourceId) :
    sourceChunk (encodeImage cfg) id.val = byte1 id.val :: sourceFields cfg id := by
  have hid : sourceIds[id.val]'id.isLt = id := by revert id; decide
  have start : (marker ++ slots.flatMap (storedRecord cfg)).length = 642 := by
    rw [List.length_append, records_length]; rfl
  rw [sourceChunk, encodeImage_eq, ← List.append_assoc, ← List.drop_drop, ← start, List.drop_left,
    block_of_flatMap _ sourceIds (fun id _ => sourceBlock_length cfg id) id.val id.isLt, hid]

theorem drop_settings : (encodeImage cfg).drop 732 = settingsBytes cfg.settings ++ bytesOfHalf (crc16 (imageBody cfg)) := by
  have start : (marker ++ (slots.flatMap (storedRecord cfg)
      ++ sourceIds.flatMap (fun id => byte1 id.val :: sourceFields cfg id))).length = 732 := by
    rw [List.length_append, List.length_append, records_length, sources_length]; rfl
  rw [encodeImage_eq, ← List.append_assoc (slots.flatMap _), ← List.append_assoc marker, ← start, List.drop_left]

/-- An image that a SAVE wrote passes its own check (R201). -/
theorem loadResult_encodeImage : loadResult (.bytes (encodeImage cfg)) = .ok := by
  have mark : (encodeImage cfg).take 2 = marker := by
    rw [encodeImage_eq]; exact List.take_left' rfl
  have body : (encodeImage cfg).take 740 = imageBody cfg := by
    rw [encodeImage, ← imageBody_length cfg, List.take_left]
  have check : ((encodeImage cfg).drop 740).take 2 = bytesOfHalf (crc16 (imageBody cfg)) := by
    rw [encodeImage, ← imageBody_length cfg, List.drop_left]
    rfl
  simp only [loadResult, mark, body, check, ne_eq, not_true_eq_false, if_false]

theorem loadedConfig_encodeImage : loadedConfig (.bytes (encodeImage cfg)) = decodeImage (encodeImage cfg) := by
  simp only [loadedConfig, loadResult_encodeImage, if_true]

end

end Sys2Proof.Machine
end

section
/-! SUPPORT. A node record read back from its 32 bytes of the stored image (R200, R201). -/

namespace Sys2Proof.Machine

/-! ### Fields -/

theorem numAt2_byte2 {p : List Byte} {k n : Nat} (hn : n < 65536) (h0 : byteAt p k = byte1 n)
    (h1 : byteAt p (k + 1) = byte1 (n / 256)) : numAt2 p k = n := by
  rw [numAt2, h0, h1, byte1_toNat (n := n / 256) (by omega)]
  unfold byte1
  rw [BitVec.toNat_ofNat]
  omega

theorem finOf_byte1 {n : Nat} (i : Fin n) (hn : n ≤ 256) : finOf n (byte1 i.val) = some i := by
  have hi : (byte1 i.val).toNat = i.val := byte1_toNat (Nat.lt_of_lt_of_le i.isLt hn)
  unfold finOf
  rw [dif_pos (hi.symm ▸ i.isLt)]
  exact congrArg some (Fin.ext hi)

theorem loNibble_pair {a b : Nat} (ha : a ≤ 15) (hb : b ≤ 15) : loNibble (byte1 (a + 16 * b)) = a := by
  rw [loNibble, byte1_toNat (by omega)]
  omega

theorem hiNibble_pair {a b : Nat} (ha : a ≤ 15) (hb : b ≤ 15) : hiNibble (byte1 (a + 16 * b)) = b := by
  rw [hiNibble, byte1_toNat (by omega)]
  omega

theorem loNibble_byte1 {a : Nat} (ha : a ≤ 15) : loNibble (byte1 a) = a := by
  rw [loNibble, byte1_toNat (by omega)]
  omega

theorem levelOfBit_isHigh (l : Level) : levelOfBit (isHigh l) = l := by cases l <;> rfl

/-! ### Flags and levels -/

/-- The byte of the two polarities. -/
def polarityByte (r : NodeRecord) : Byte :=
  byte1 ((if isHigh r.polarity then 1 else 0) + (if inputPolarity r.body then 2 else 0))

theorem polarityByte_bits (r : NodeRecord) : (polarityByte r).toNat < 4
    ∧ (polarityByte r).getLsbD 0 = isHigh r.polarity ∧ (polarityByte r).getLsbD 1 = inputPolarity r.body := by
  unfold polarityByte
  cases isHigh r.polarity <;> cases inputPolarity r.body <;> decide

theorem levelsByte_bits (l : Levels) : (levelsByte l).toNat < 16
    ∧ Levels.mk ((levelsByte l).getLsbD 0) ((levelsByte l).getLsbD 1) ((levelsByte l).getLsbD 2)
      ((levelsByte l).getLsbD 3) = l := by
  obtain ⟨working, doze, hibernate, off⟩ := l
  revert working doze hibernate off
  decide

theorem classByte_bits (r : NodeRecord) : (classByte r).toNat < 4
    ∧ (if (classByte r).getLsbD 0 then .critical else .tolerated) = r.severity
    ∧ (classByte r).getLsbD 1 = r.irreversible := by
  unfold classByte
  cases r.severity <;> cases r.irreversible <;> decide

/-! ### Prerequisites (R42) -/

/-- The prerequisite bytes of a list of at most four are its slots, then 0xFF. -/
theorem prereqBytes_eq {l : List Slot} (h : l.length ≤ 4) :
    prereqBytes l = l.map (fun s : Slot => byte1 s.val) ++ List.replicate (4 - l.length) 0xFF := by
  rw [prereqBytes, List.take_append, List.take_of_length_le (by simpa using h)]
  simp only [List.length_map]
  congr 1
  have : ∀ n, n ≤ 4 → ([0xFF, 0xFF, 0xFF, 0xFF] : List Byte).take n = List.replicate n 0xFF := by decide
  exact this _ (by omega)

theorem byte1_slot_ne (s : Slot) : byte1 s.val ≠ 0xFF := by revert s; decide

theorem filter_prereqBytes {l : List Slot} (h : l.length ≤ 4) :
    (prereqBytes l).filter (fun b => b ≠ 0xFF) = l.map (fun s : Slot => byte1 s.val) := by
  rw [prereqBytes_eq h, List.filter_append]
  rw [List.filter_eq_self.mpr, List.filter_eq_nil_iff.mpr, List.append_nil]
  · intro b hb
    simp [List.eq_of_mem_replicate hb]
  · intro b hb
    obtain ⟨s, _, rfl⟩ := List.mem_map.mp hb
    simpa using byte1_slot_ne s

theorem mapM_finOf (l : List Slot) : (l.map (fun s : Slot => byte1 s.val)).mapM (finOf 20) = some l := by
  induction l with
  | nil => rfl
  | cons s l ih => simp [List.mapM_cons, finOf_byte1, ih]

/-- A list of prerequisites in its range is read back. -/
theorem parsePrereqs_eq {p : List Byte} {l : List Slot} (nodup : l.Nodup) (len : l.length ≤ 4)
    (hp : [byteAt p 8, byteAt p 9, byteAt p 10, byteAt p 11] = prereqBytes l) : parsePrereqs p = some l := by
  unfold parsePrereqs
  simp only [hp, filter_prereqBytes len, mapM_finOf, nodup, if_true]

/-! ### The bytes of a stored record -/

/-- The bytes of a stored record that every kind holds, and those of its kind. -/
structure HoldsRecord (p : List Byte) (r : NodeRecord) : Prop where
  kind : byteAt p 1 = byte1 (kindCode (some r))
  source : byteAt p 2 = byte1 (sourceCode r.body)
  output : byteAt p 3 = byte1 r.output.val
  line : byteAt p 4 = byte1 (inputLine r.body)
  polarity : byteAt p 5 = polarityByte r
  levels : byteAt p 6 = levelsByte r.levels
  severity : byteAt p 7 = classByte r
  prereqs : [byteAt p 8, byteAt p 9, byteAt p 10, byteAt p 11] = prereqBytes r.prereqs
  rail : [byteAt p 12, byteAt p 13] = railBytes r.body
  ramp : [byteAt p 14, byteAt p 15] = byte2 r.ramp
  settle : [byteAt p 16, byteAt p 17] = byte2 r.settle
  discharge : [byteAt p 18, byteAt p 19] = byte2 r.discharge
  counts : byteAt p 20 = countsByte r.body
  window : ∀ c w g b x y z, r.body = .rail (.analog c w g b) x y z →
    [byteAt p 22, byteAt p 23, byteAt p 24, byteAt p 25, byteAt p 26, byteAt p 27, byteAt p 28, byteAt p 29,
      byteAt p 30, byteAt p 31] = windowBytes w

theorem holdsRecord_storedRecord {cfg : WorkingConfig} {i : Slot} {r : NodeRecord} (hr : cfg.node i = some r) :
    HoldsRecord (storedRecord cfg i) r := by
  obtain ⟨a, b, c, d, hpre⟩ : ∃ a b c d, prereqBytes r.prereqs = [a, b, c, d] := by
    have len := prereqBytes_length r.prereqs
    match prereqBytes r.prereqs, len with
    | [a, b, c, d], _ => exact ⟨a, b, c, d, rfl⟩
  obtain ⟨x, y, hrail⟩ : ∃ x y, railBytes r.body = [x, y] := by cases r.body <;> exact ⟨_, _, rfl⟩
  have bytes : storedRecord cfg i = [byte1 i.val, byte1 (kindCode (some r)), byte1 (sourceCode r.body),
      byte1 r.output.val, byte1 (inputLine r.body), polarityByte r, levelsByte r.levels, classByte r, a, b, c, d, x, y,
      byte1 r.ramp, byte1 (r.ramp / 256), byte1 r.settle, byte1 (r.settle / 256), byte1 r.discharge,
      byte1 (r.discharge / 256), countsByte r.body, 0] ++ (windowPart r.body
        ++ List.replicate (32 - (recordBytes i (some r)).length) 0) := by
    simp only [storedRecord, hr, recordBytes, hpre, hrail, byte2, polarityByte, List.cons_append, List.nil_append]
  rw [bytes]
  refine ⟨rfl, rfl, rfl, rfl, rfl, rfl, rfl, hpre.symm, hrail.symm, rfl, rfl, rfl, rfl, ?_⟩
  intro c w g b x y z hbody
  rw [hbody]
  rfl

/-! ### What the bytes are read back to -/

theorem parseWindow_eq {p : List Byte} {w : Window} (hw : w.inRange)
    (h : [byteAt p 22, byteAt p 23, byteAt p 24, byteAt p 25, byteAt p 26, byteAt p 27, byteAt p 28, byteAt p 29,
      byteAt p 30, byteAt p 31] = windowBytes w) : parseWindow p = w := by
  obtain ⟨hnominal, hscale, hunder, hover, hhyst, hthreshold⟩ := hw
  simp only [windowBytes, byte2, List.cons_append, List.nil_append, List.cons.injEq, and_true] at h
  obtain ⟨h22, h23, h24, h25, h26, h27, h28, h29, h30, h31⟩ := h
  unfold parseWindow
  rw [numAt2_byte2 (by omega) h22 h23, numAt2_byte2 (by omega) h24 h25, h26, h27, byte1_toNat (by omega),
    byte1_toNat (by omega), numAt2_byte2 (by omega) h28 h29, numAt2_byte2 (by omega) h30 h31]

/-- The body of a stored record is read back with what it binds, and as it was where its fields lie in their ranges. -/
theorem parseBody_eq {p : List Byte} {r : NodeRecord} (h : HoldsRecord p r) :
    ∃ x, parseBody p = some x ∧ x.channel = r.body.channel ∧ x.input = r.body.input
      ∧ (r.body.inRange → x = r.body) := by
  have line := h.line
  have kind := h.kind
  have source := h.source
  have polarity := (polarityByte_bits r).2.2
  rw [← h.polarity] at polarity
  have rail := h.rail
  have counts := h.counts
  have window := h.window
  cases hbody : r.body with
  | rail g priority weight retries =>
    rw [hbody] at line source polarity rail counts
    simp only [railBytes, List.cons.injEq, and_true] at rail
    have k1 : (byteAt p 1).toNat = 1 := by rw [kind]; simp [kindCode, hbody, byte1]
    cases g with
    | analog c w g b =>
      have k2 : (byteAt p 2).toNat = 0 := by rw [source]; rfl
      refine ⟨.rail (.analog c (parseWindow p) (loNibble (byteAt p 20)) (hiNibble (byteAt p 20))) (loNibble (byteAt p 12))
        (byteAt p 13).toNat (hiNibble (byteAt p 12)), by
        simp only [parseBody, k1, parseGoodSource, k2, line, inputLine, finOf_byte1 c (by decide), Option.map_some],
        rfl, rfl, ?_⟩
      rintro ⟨⟨hw, hg, hb⟩, hp, hweight, hret⟩
      rw [counts, rail.1, rail.2]
      simp only [countsByte]
      rw [loNibble_pair hg.2 hb.2, hiNibble_pair hg.2 hb.2, loNibble_pair hp (by omega), hiNibble_pair hp (by omega),
        byte1_toNat (by omega), parseWindow_eq hw (window _ _ _ _ _ _ _ hbody)]
    | digital c l g b =>
      have k2 : (byteAt p 2).toNat = 1 := by rw [source]; rfl
      refine ⟨.rail (.digital c (levelOfBit ((byteAt p 5).getLsbD 1)) (loNibble (byteAt p 20)) (hiNibble (byteAt p 20)))
        (loNibble (byteAt p 12)) (byteAt p 13).toNat (hiNibble (byteAt p 12)), by
        simp only [parseBody, k1, parseGoodSource, k2, line, inputLine, finOf_byte1 c (by decide), Option.map_some],
        rfl, rfl, ?_⟩
      rintro ⟨⟨hg, hb⟩, hp, hweight, hret⟩
      rw [counts, rail.1, rail.2, polarity]
      simp only [countsByte, inputPolarity]
      rw [loNibble_pair hg.2 hb.2, hiNibble_pair hg.2 hb.2, loNibble_pair hp (by omega), hiNibble_pair hp (by omega),
        byte1_toNat (by omega), levelOfBit_isHigh]
    | timed =>
      have k2 : (byteAt p 2).toNat = 2 := by rw [source]; rfl
      refine ⟨.rail .timed (loNibble (byteAt p 12)) (byteAt p 13).toNat (hiNibble (byteAt p 12)), by
        simp only [parseBody, k1, parseGoodSource, k2, Option.map_some], rfl, rfl, ?_⟩
      rintro ⟨_, hp, hweight, hret⟩
      rw [rail.1, rail.2, loNibble_pair hp (by omega), hiNibble_pair hp (by omega), byte1_toNat (by omega)]
  | signal =>
    have k1 : (byteAt p 1).toNat = 2 := by rw [kind]; simp [kindCode, hbody, byte1]
    exact ⟨.signal, by simp only [parseBody, k1], rfl, rfl, fun _ => rfl⟩
  | handshake a l g =>
    rw [hbody] at line polarity counts
    have k1 : (byteAt p 1).toNat = 3 := by rw [kind]; simp [kindCode, hbody, byte1]
    refine ⟨.handshake a (levelOfBit ((byteAt p 5).getLsbD 1)) (loNibble (byteAt p 20)), by
      simp only [parseBody, k1, line, inputLine, finOf_byte1 a (by decide), Option.map_some], rfl, rfl, ?_⟩
    rintro ⟨_, hg⟩
    rw [counts, polarity]
    simp only [countsByte, inputPolarity]
    rw [loNibble_byte1 hg, levelOfBit_isHigh]

/-- A record in a load binds what the record it was saved from binds; one whose fields lie in their ranges is that
record. -/
theorem parseRecord_stored {p : List Byte} {r : NodeRecord} (h : HoldsRecord p r) :
    (parseRecord p = none ∨ ∃ q, parseRecord p = some (some q) ∧ q.output = r.output
      ∧ q.body.channel = r.body.channel ∧ q.body.input = r.body.input)
    ∧ (r.inRange → parseRecord p = some (some r)) := by
  obtain ⟨x, hx, hchannel, hinput, hrange⟩ := parseBody_eq h
  obtain ⟨hpol, hpol0, _⟩ := polarityByte_bits r
  obtain ⟨hlev, hlevels⟩ := levelsByte_bits r.levels
  obtain ⟨hcls, hseverity, hirr⟩ := classByte_bits r
  have hkind : (byteAt p 1).toNat ≠ 0 := by
    rw [h.kind]
    cases hb : r.body <;> simp [kindCode, hb, byte1]
  have hout : finOf 16 (byteAt p 3) = some r.output := by rw [h.output]; exact finOf_byte1 r.output (by decide)
  have ramp := h.ramp
  have settle := h.settle
  have discharge := h.discharge
  simp only [byte2, List.cons.injEq, and_true] at ramp settle discharge
  unfold parseRecord parseNode
  rw [if_neg hkind, if_pos ⟨h.polarity ▸ hpol, h.levels ▸ hlev, h.severity ▸ hcls⟩, hx, hout]
  refine ⟨?_, ?_⟩
  · cases parsePrereqs p with
    | none => exact .inl rfl
    | some l => exact .inr ⟨_, rfl, rfl, hchannel, hinput⟩
  · rintro ⟨⟨nodup, len⟩, hramp, hsettle, hdischarge, hbody⟩
    rw [parsePrereqs_eq nodup len h.prereqs]
    simp only [Option.map_some, h.polarity, h.levels, h.severity, hpol0, hlevels, hseverity, hirr, levelOfBit_isHigh,
      numAt2_byte2 (show r.ramp < 65536 by omega) ramp.1 ramp.2,
      numAt2_byte2 (show r.settle < 65536 by omega) settle.1 settle.2,
      numAt2_byte2 (show r.discharge < 65536 by omega) discharge.1 discharge.2, hrange hbody]

theorem parseRecord_none {cfg : WorkingConfig} {i : Slot} (hn : cfg.node i = none) :
    parseRecord (storedRecord cfg i) = some none := by
  unfold storedRecord
  rw [hn]
  rfl

end Sys2Proof.Machine
end

section
/-! SUPPORT. Source records and settings read back from the stored image, and the whole table (R201, R202). -/

namespace Sys2Proof.Machine

/-! ### Codes -/

theorem wakeModeOf_code (m : WakeMode) : wakeModeOf (byte1 m.code) = some m := by cases m <;> rfl

theorem policyOf_code (q : Policy) : policyOf (byte1 q.code) = some q := by cases q <;> rfl

theorem arbiterModeOf_code (m : ArbiterMode) : arbiterModeOf (byte1 m.code) = some m := by cases m <;> rfl

theorem acPolicyOf_code (a : AcPolicy) : acPolicyOf (byte1 a.code) = some a := by cases a <;> rfl

theorem armedOf_armedByte (a : Armed) : armedOf (armedByte a) = some a := by
  obtain ⟨doze, hibernate, off⟩ := a
  revert doze hibernate off
  decide

theorem halfOfBytes_toNat (lo hi : Byte) : (halfOfBytes lo hi).toNat = lo.toNat + 256 * hi.toNat := by
  unfold halfOfBytes
  rw [BitVec.toNat_append, Nat.shiftLeft_eq, ← Nat.shiftLeft_eq, ← Nat.shiftLeft_add_eq_or_of_lt lo.isLt,
    Nat.shiftLeft_eq]
  omega

theorem halfOfBytes_byte2 {n : Nat} (h : n < 65536) : (halfOfBytes (byte1 n) (byte1 (n / 256))).toNat = n := by
  rw [halfOfBytes_toNat, byte1_toNat (n := n / 256) (by omega)]
  unfold byte1
  rw [BitVec.toNat_ofNat]
  omega

/-! ### Sources and settings -/

theorem lineOfPayload_stored {r : LineRecord} (h : r.inRange) (id : Byte) :
    lineOfPayload (sourcePayloadOf (id :: lineFields r)) = some r := by
  obtain ⟨hdebounce, hcount, hwindow, hpriority⟩ := h
  have payload : sourcePayloadOf (id :: lineFields r) = ⟨id, byte1 r.mode.code, byte1 r.debounce, byte1 r.edgeCount,
      halfOfBytes (byte1 r.window) (byte1 (r.window / 256)), armedByte r.armed, byte1 r.priority, byte1 r.policy.code⟩ := rfl
  rw [payload]
  simp only [lineOfPayload, wakeModeOf_code, armedOf_armedByte, policyOf_code, halfOfBytes_byte2 (show r.window < 65536 by omega),
    byte1_toNat (show r.debounce < 256 by omega), byte1_toNat (show r.edgeCount < 256 by omega),
    byte1_toNat (show r.priority < 256 by omega)]

theorem buttonOfPayload_stored {r : ButtonRecord} (h : r.priority ≤ 7) (id : Byte) :
    buttonOfPayload (sourcePayloadOf [id, 0, 0, 0, 0, 0, 0, byte1 r.priority, byte1 r.policy.code]) = some r := by
  show (policyOf (byte1 r.policy.code)).map (fun q => (⟨(byte1 r.priority).toNat, q⟩ : ButtonRecord)) = some r
  rw [policyOf_code, byte1_toNat (by omega)]
  rfl

theorem linkOfPayload_stored {r : LinkRecord} (h : r.priority ≤ 7) (id : Byte) :
    linkOfPayload (sourcePayloadOf [id, 0, 0, 0, 0, 0, armedByte r.armed, byte1 r.priority, byte1 r.policy.code])
      = some r := by
  have payload : sourcePayloadOf [id, 0, 0, 0, 0, 0, armedByte r.armed, byte1 r.priority, byte1 r.policy.code]
      = ⟨id, 0, 0, 0, halfOfBytes 0 0, armedByte r.armed, byte1 r.priority, byte1 r.policy.code⟩ := rfl
  rw [payload]
  simp only [linkOfPayload, armedOf_armedByte, policyOf_code, byte1_toNat (show r.priority < 256 by omega)]

theorem settingsOfPayload_stored {t : Settings} (h : t.inRange) (rest : List Byte) :
    settingsOfPayload (settingsPayloadOf (settingsBytes t ++ rest)) = some t := by
  obtain ⟨hbudget, hresume, hhold, hsleep⟩ := h
  have payload : settingsPayloadOf (settingsBytes t ++ rest) = ⟨byte1 t.budget, byte1 t.mode.code,
      halfOfBytes (byte1 t.resumeDeadline) (byte1 (t.resumeDeadline / 256)), byte1 t.holdTime,
      halfOfBytes (byte1 t.sleepInterval) (byte1 (t.sleepInterval / 256)), byte1 t.acPolicy.code⟩ := rfl
  rw [payload]
  simp only [settingsOfPayload, arbiterModeOf_code, acPolicyOf_code,
    halfOfBytes_byte2 (show t.resumeDeadline < 65536 by omega), halfOfBytes_byte2 (show t.sleepInterval < 65536 by omega),
    byte1_toNat (show t.budget < 256 by omega), byte1_toNat (show t.holdTime < 256 by omega)]

/-! ### The whole table -/

section
variable {cfg : WorkingConfig}

theorem loadRecord_encodeImage (i : Slot) :
    loadRecord (encodeImage cfg) i = (parseRecord (storedRecord cfg i)).getD none := by
  rw [loadRecord, recordChunk_encodeImage]

/-- A slot of the table that a load takes from what a SAVE wrote: NONE, or a record that binds the same (R33). -/
theorem node_decodeImage (i : Slot) : (decodeImage (encodeImage cfg)).node i = none
    ∨ ∃ r q, cfg.node i = some r ∧ (decodeImage (encodeImage cfg)).node i = some q ∧ q.output = r.output
      ∧ q.body.channel = r.body.channel ∧ q.body.input = r.body.input := by
  have slot : (decodeImage (encodeImage cfg)).node i = (parseRecord (storedRecord cfg i)).getD none := by
    rw [← loadRecord_encodeImage]
    simp [decodeImage, WorkingConfig.node, Vector.get_eq_getElem]
  rw [slot]
  cases hr : cfg.node i with
  | none => rw [parseRecord_none hr]; exact .inl rfl
  | some r =>
    obtain ⟨hparse | ⟨q, hparse, hout, hchannel, hinput⟩, _⟩ := parseRecord_stored (holdsRecord_storedRecord hr)
    · rw [hparse]; exact .inl rfl
    · rw [hparse]; exact .inr ⟨r, q, rfl, rfl, hout, hchannel, hinput⟩

theorem nodes_decodeImage (h : ∀ i r, cfg.node i = some r → r.inRange) :
    (decodeImage (encodeImage cfg)).nodes = cfg.nodes := by
  refine Vector.ext fun k hk => ?_
  have slot : parseRecord (storedRecord cfg ⟨k, hk⟩) = some (cfg.node ⟨k, hk⟩) := by
    cases hr : cfg.node ⟨k, hk⟩ with
    | none => exact parseRecord_none hr
    | some r => exact (parseRecord_stored (holdsRecord_storedRecord hr)).2 (h _ r hr)
  simp only [decodeImage, Vector.getElem_ofFn, loadRecord_encodeImage, slot, Option.getD_some]
  rfl

theorem lines_decodeImage (h : ∀ l, (cfg.line l).inRange) : (decodeImage (encodeImage cfg)).lines = cfg.lines := by
  refine Vector.ext fun k hk => ?_
  have chunk : sourceChunk (encodeImage cfg) k = byte1 k :: lineFields cfg.lines[k] := by
    have := sourceChunk_encodeImage cfg ⟨k, by omega⟩
    rwa [sourceFields, dif_pos hk] at this
  have line : lineOfPayload (sourcePayloadOf (byte1 k :: lineFields cfg.lines[k])) = some cfg.lines[k] :=
    lineOfPayload_stored (h ⟨k, hk⟩) (byte1 k)
  simp only [decodeImage, Vector.getElem_ofFn, chunk, line, Option.getD_some]

theorem decodeImage_encodeImage (h : cfg.inRange) : decodeImage (encodeImage cfg) = cfg := by
  obtain ⟨nodes, lines, button, link, settings⟩ := h
  have buttonChunk : sourceChunk (encodeImage cfg) 8
      = [byte1 8, 0, 0, 0, 0, 0, 0, byte1 cfg.button.priority, byte1 cfg.button.policy.code] :=
    sourceChunk_encodeImage cfg 8
  have linkChunk : sourceChunk (encodeImage cfg) 9
      = [byte1 9, 0, 0, 0, 0, 0, armedByte cfg.link.armed, byte1 cfg.link.priority, byte1 cfg.link.policy.code] :=
    sourceChunk_encodeImage cfg 9
  calc decodeImage (encodeImage cfg)
      = ⟨(decodeImage (encodeImage cfg)).nodes, (decodeImage (encodeImage cfg)).lines, cfg.button, cfg.link,
          cfg.settings⟩ := by
        simp only [decodeImage, buttonChunk, linkChunk, drop_settings, buttonOfPayload_stored button,
          linkOfPayload_stored link, settingsOfPayload_stored settings, Option.getD_some]
    _ = cfg := by rw [nodes_decodeImage nodes, lines_decodeImage lines]

end

end Sys2Proof.Machine
end

section
/-! SETTLEMENT. The stored image. -/

namespace Sys2Proof.Machine

/-- Settles O52: the image's blocks lie where a load looks for them, and each is read back. -/
theorem savedImagesLoadBack : Obligations.SavedImagesLoadBack := by
  unfold Obligations.SavedImagesLoadBack
  intro cfg h
  refine ⟨encodeImage_length cfg, loadResult_encodeImage cfg, ?_⟩
  rw [loadedConfig_encodeImage, decodeImage_encodeImage h]

end Sys2Proof.Machine
end

section
/-! SUPPORT. Output lines and bindings under every move and every piece of work (R31, R33, R52). -/

namespace Sys2Proof.Machine

/-! ### One line -/

theorem get_set_self {n : Nat} {α : Type} (v : Vector α n) (i : Fin n) (x : α) : (v.set i.val x i.isLt).get i = x := by
  simp [Vector.get_eq_getElem]

theorem get_set_ne {n : Nat} {α : Type} (v : Vector α n) {i j : Fin n} (x : α) (h : i ≠ j) :
    (v.set i.val x i.isLt).get j = v.get j := by
  have : i.val ≠ j.val := fun e => h (Fin.ext e)
  simp [Vector.get_eq_getElem, this]

theorem outsFor_get_self {cfg : WorkingConfig} {i : Slot} {r : NodeRecord} (hr : cfg.node i = some r)
    (outs : Vector Drive 16) (st : NodeState) : (outsFor cfg outs i st).get r.output = .driven (r.outLevel st.level) := by
  unfold outsFor
  rw [hr]
  exact get_set_self outs r.output _

theorem outsFor_get_ne {cfg : WorkingConfig} {i : Slot} {o : Fin 16} (h : ∀ r, cfg.node i = some r → r.output ≠ o)
    (outs : Vector Drive 16) (st : NodeState) : (outsFor cfg outs i st).get o = outs.get o := by
  unfold outsFor
  split
  · rfl
  · rename_i r hr; exact get_set_ne outs _ (h r hr)

/-! ### Lines and node states under a move -/

section
variable {cfg : WorkingConfig} {b t : Board}

/-- Lines and levels of another board, on a table with the same records. -/
theorem linesAgree_congr {table : WorkingConfig} (h : linesAgree cfg b) (nodes : table.nodes = cfg.nodes)
    (outs : t.outs = b.outs) (states : ∀ i, t.stateOf i = b.stateOf i) : linesAgree table t := by
  have node : ∀ i, table.node i = cfg.node i := fun i => by unfold WorkingConfig.node; rw [nodes]
  refine ⟨fun i r hr => ?_, fun o ho => ?_⟩
  · rw [outs, states]; exact h.1 i r (node i ▸ hr)
  · rw [outs]; exact h.2 o fun i r hr => ho i r ((node i).symm ▸ hr)

theorem linesAgree_enter (h : linesAgree cfg b) (unique : outputsUnique cfg) (i : Slot) (st : NodeState)
    (dl : Option Deadline) : linesAgree cfg (enter cfg b i st dl) := by
  refine ⟨fun j r hr => ?_, fun o ho => ?_⟩
  · rw [enter_outs]
    by_cases hj : j = i
    · subst hj
      rw [stateOf_enter_self]
      exact outsFor_get_self hr b.outs st
    · rw [stateOf_enter_ne _ _ _ _ _ _ hj, outsFor_get_ne (fun q hq ho => hj (unique j i r q hr hq ho.symm))]
      exact h.1 j r hr
  · rw [enter_outs, outsFor_get_ne (ho i)]
    exact h.2 o ho

theorem linesAgree_grantCharge {e : Env} (h : linesAgree e.cfg b) (unique : outputsUnique e.cfg) (i : Slot) :
    linesAgree e.cfg (grantCharge e b i) := by
  have ramped : linesAgree e.cfg (toRamping e b i) := by
    unfold toRamping
    split
    · exact h
    · exact linesAgree_enter h unique i _ _
  refine linesAgree_congr ramped rfl rfl fun j => ?_
  by_cases hj : j = i
  · rw [hj]; exact stateOf_grantCharge e b i
  · exact congrArg Node.state (onlySlot_updNode (toRamping e b i) i (Node.withCharge (e.cfg.weight i)) j hj)

theorem linesAgree_move {e : Env} (unique : outputsUnique e.cfg) (h : Move e b t) (hb : linesAgree e.cfg b) :
    linesAgree e.cfg t := by
  cases h with
  | switch h =>
    cases h with
    | enter i st dl timed bound => exact linesAgree_enter hb unique i st dl
    | remark frame kept => exact linesAgree_congr hb rfl (by rw [frame]) fun i => (kept i).1.1
    | grant i queued => exact linesAgree_grantCharge hb unique i
  | engine h =>
    obtain ⟨hnodes, houts, _⟩ := h.slots_eq
    exact linesAgree_congr hb rfl houts fun i => by unfold Board.stateOf Board.node; rw [hnodes]

end

/-! ### A put (R31, R47) -/

section
variable {old new : Option NodeRecord} {outs : Vector Drive 16} {o : Fin 16}

/-- A line that the new record does not bind is released where the old one bound it. -/
theorem putLines_get_ne (h : ∀ q, new = some q → q.output ≠ o) :
    (bindLine old new (releaseLine old new outs)).get o
      = if ∃ r, old = some r ∧ r.output = o then .released else outs.get o := by
  have bind (v : Vector Drive 16) : (bindLine old new v).get o = v.get o := by
    unfold bindLine
    split
    · rfl
    · rename_i q
      split
      · rfl
      · exact get_set_ne v _ (h q rfl)
  rw [bind]
  cases old with
  | none => rw [if_neg (by simp)]; rfl
  | some r =>
    by_cases ho : r.output = o
    · rw [if_pos ⟨r, rfl, ho⟩]
      have unbound : ¬new.any (fun q => q.output == r.output) = true := by
        cases new with
        | none => simp
        | some q => simpa [ho] using h q rfl
      simp only [releaseLine]
      rw [if_neg unbound, ← ho]
      exact get_set_self outs r.output _
    · rw [if_neg (by rintro ⟨_, hr, ho'⟩; exact ho (Option.some.inj hr ▸ ho'))]
      simp only [releaseLine]
      split
      · rfl
      · exact get_set_ne outs _ ho

/-- The line that the new record binds is driven to the off level, or stays where the old record bound it with the same
polarity. -/
theorem putLines_get_self {q : NodeRecord} : (bindLine old (some q) (releaseLine old (some q) outs)).get q.output
    = if old.any (fun r => r.output == q.output && r.polarity == q.polarity) then outs.get q.output
      else .driven (q.outLevel false) := by
  simp only [bindLine]
  split
  · rename_i hany
    cases old with
    | none => simp at hany
    | some r =>
      have same : r.output = q.output := by simp at hany; exact hany.1
      simp only [releaseLine]
      rw [if_pos (by simp [same])]
  · exact get_set_self _ q.output _

end

/-- A put that leaves output and polarity is the only one that finds its node up (R45). -/
theorem structuralChange_of_rebinds {r q : NodeRecord} (h : (r.output == q.output && r.polarity == q.polarity) = false) :
    structuralChange (some r) (some q) = true := by
  simp only [structuralChange, h, Bool.false_and, Bool.not_false]

theorem level_of_isDown {st : NodeState} (h : st.isDown = true) : st.level = false := by
  cases st with
  | off | faulted k => rfl
  | _ => cases h

/-- A put leaves the level of its slot. -/
theorem level_afterPut {n : Node} {old : Option NodeRecord} {q : NodeRecord} :
    (n.afterPut old (some q)).state.level = n.state.level := by
  rw [state_afterPut]
  split
  · rename_i hoff
    simp only [Node.putsOff, Option.isNone_some, Bool.false_or, Bool.and_eq_true] at hoff
    cases hst : n.state with
    | faulted k => rfl
    | _ => simp [hst, NodeState.isFaulted] at hoff
  · rfl

/-- A put that passes its checks clashes with no other slot (R43). -/
theorem unclashed_of_passes {cfg : WorkingConfig} {b : Board} {i : Slot} {rec : Option NodeRecord}
    (passes : putRefusal cfg b i rec = none) : ∀ r, rec = some r → clashes cfg i r = false := by
  rintro r rfl
  unfold putRefusal at passes
  split_ifs at passes with _ clash
  simpa using clash

section
variable {s : State} {i : Slot} {rec : Option NodeRecord}

theorem bindingsUnique_put (h : bindingsUnique s.cfg) (passes : putRefusal s.cfg s.board i rec = none) :
    bindingsUnique (s.cfg.putNode i (rec.map clampNode)) := by
  refine bindingsUnique_putNode h i _ fun r hr => ?_
  obtain ⟨q, hq, rfl⟩ := Option.map_eq_some_iff.mp hr
  rw [clashes_clampNode]
  exact unclashed_of_passes passes q hq

/-- Where a put changes a line or a polarity, it finds its slot at rest off. -/
theorem level_of_rebinds {q : NodeRecord} (passes : putRefusal s.cfg s.board i (some q) = none)
    (h : (s.cfg.node i).any (fun r => r.output == q.output && r.polarity == q.polarity) = false) :
    (s.board.stateOf i).level = false := by
  refine level_of_isDown (isDown_of_passes passes ?_)
  cases hr : s.cfg.node i with
  | none => rfl
  | some r => rw [hr] at h; exact structuralChange_of_rebinds (by simpa using h)

theorem linesAgree_put (h : linesAgree s.cfg s.board) (bindings : bindingsUnique s.cfg)
    (passes : putRefusal s.cfg s.board i rec = none) :
    linesAgree (s.putNode i (rec.map clampNode)).cfg (s.putNode i (rec.map clampNode)).board := by
  have outs : (s.putNode i (rec.map clampNode)).board.outs = bindLine (s.cfg.node i) (rec.map clampNode)
    (releaseLine (s.cfg.node i) (rec.map clampNode) s.board.outs) := rfl
  have unique := bindings.1
  have elsewhere {j : Slot} (hj : j ≠ i) : (s.putNode i (rec.map clampNode)).board.stateOf j = s.board.stateOf j :=
    congrArg Node.state (onlySlot_putNode s i _ j hj)
  have fresh {j : Slot} {r : NodeRecord} (hj : j ≠ i) (hr : s.cfg.node j = some r) :
      ∀ q, rec.map clampNode = some q → q.output ≠ r.output := by
    intro q hq
    obtain ⟨x, hx, rfl⟩ := Option.map_eq_some_iff.mp hq
    exact (bindClash_false (clashes_false (unclashed_of_passes passes x hx) j r hj hr)).1
  refine ⟨fun j r hr => ?_, fun o ho => ?_⟩
  · rw [cfg_putNode, node_putNode] at hr
    by_cases hj : j = i
    · subst hj
      rw [if_pos rfl] at hr
      obtain ⟨q, rfl, rfl⟩ := Option.map_eq_some_iff.mp hr
      have state : ((s.putNode j (some (clampNode q))).board.stateOf j).level = (s.board.stateOf j).level := by
        unfold Board.stateOf
        rw [node_putNode_self]
        exact level_afterPut
      rw [outs, Option.map_some, putLines_get_self, state]
      split
      · rename_i hsame
        cases hold : s.cfg.node j with
        | none => rw [hold] at hsame; cases hsame
        | some r =>
          rw [hold] at hsame
          simp only [Option.any_some, Bool.and_eq_true, beq_iff_eq] at hsame
          rw [← hsame.1, h.1 j r hold, NodeRecord.outLevel, NodeRecord.outLevel, hsame.2]
      · rename_i hchange
        rw [level_of_rebinds passes (by simpa [clampNode] using hchange)]
    · rw [if_neg hj] at hr
      rw [elsewhere hj, outs, putLines_get_ne (fresh hj hr), if_neg, h.1 j r hr]
      rintro ⟨q, hq, ho⟩
      exact hj (unique j i r q hr hq ho.symm)
  · have ho' (j : Slot) (r : NodeRecord) (hr : (s.cfg.putNode i (rec.map clampNode)).node j = some r) : r.output ≠ o :=
      ho j r hr
    rw [outs, putLines_get_ne fun q hq => ho' i q (by rw [node_putNode, if_pos rfl, hq])]
    split
    · rfl
    · rename_i hnot
      refine h.2 o fun j r hr => ?_
      by_cases hj : j = i
      · subst hj; exact fun hout => hnot ⟨r, hr, hout⟩
      · exact ho' j r (by rw [node_putNode, if_neg hj, hr])

end

/-! ### The lines of the load event (R31, R202) -/

section
variable {cfg : WorkingConfig}

/-- Driving every slot of a list to its off level leaves a line that none of them binds. -/
theorem foldl_outsFor_unbound {o : Fin 16} (h : ∀ i r, cfg.node i = some r → r.output ≠ o) :
    ∀ (l : List Slot) (outs : Vector Drive 16), (l.foldl (fun outs i => outsFor cfg outs i .off) outs).get o = outs.get o
  | [], _ => rfl
  | i :: l, outs => by
    rw [List.foldl_cons, foldl_outsFor_unbound h l, outsFor_get_ne (h i)]

/-- … and leaves the line of each of them, and one that is there already, at that level. -/
theorem foldl_outsFor_bound (unique : outputsUnique cfg) {i : Slot} {r : NodeRecord} (hr : cfg.node i = some r) :
    ∀ (l : List Slot) (outs : Vector Drive 16), i ∈ l ∨ outs.get r.output = .driven (r.outLevel false) →
      (l.foldl (fun outs i => outsFor cfg outs i .off) outs).get r.output = .driven (r.outLevel false)
  | [], _, h => h.resolve_left List.not_mem_nil
  | j :: l, outs, h => by
    rw [List.foldl_cons]
    refine foldl_outsFor_bound unique hr l _ ?_
    by_cases hj : j = i
    · subst hj; exact .inr (outsFor_get_self hr outs .off)
    · rw [outsFor_get_ne fun q hq ho => hj (unique j i q r hq hr ho)]
      exact h.imp_left fun hi => (List.mem_cons.mp hi).resolve_left (Ne.symm hj)

theorem linesAgree_loadedBoard (unique : outputsUnique cfg) (result : StoreResult) (hot : Bool) :
    linesAgree cfg (loadedBoard cfg result hot) := by
  refine ⟨fun i r hr => ?_, fun o ho => ?_⟩
  · have off : ((loadedBoard cfg result hot).stateOf i).level = false := by
      unfold Board.stateOf
      rw [node_loadedBoard]
      rfl
    rw [off]
    exact foldl_outsFor_bound unique hr slots _ (.inl (mem_slots i))
  · exact (foldl_outsFor_unbound ho slots _).trans (by simp [Vector.get_eq_getElem])

/-! ### The tables of the store (R201) -/

theorem node_default (i : Slot) : WorkingConfig.default.node i = none := by
  simp [WorkingConfig.default, WorkingConfig.node, Vector.get_eq_getElem]

/-- A table without records binds nothing. -/
theorem bindingsUnique_of_unbound (h : ∀ i, cfg.node i = none) : bindingsUnique cfg :=
  ⟨fun i _ _ _ hi => absurd (h i) (by simp [hi]), fun i _ _ _ _ hi => absurd (h i) (by simp [hi]),
    fun i _ _ _ _ hi => absurd (h i) (by simp [hi])⟩

/-- What a load takes from what a SAVE wrote binds nothing twice. -/
theorem bindingsUnique_encodeImage (h : bindingsUnique cfg) :
    bindingsUnique (loadedConfig (.bytes (encodeImage cfg))) := by
  rw [loadedConfig_encodeImage]
  have saved {i : Slot} {q : NodeRecord} (hq : (decodeImage (encodeImage cfg)).node i = some q) :
      ∃ r, cfg.node i = some r ∧ q.output = r.output ∧ q.body.channel = r.body.channel ∧ q.body.input = r.body.input := by
    rcases node_decodeImage (cfg := cfg) i with hn | ⟨r, q', hr, hq', hsame⟩
    · rw [hn] at hq; cases hq
    · rw [hq'] at hq; cases hq; exact ⟨r, hr, hsame⟩
  refine ⟨fun i j q x hq hx ho => ?_, fun i j q x c hq hx h1 h2 => ?_, fun i j q x d hq hx h1 h2 => ?_⟩
  all_goals
    obtain ⟨r, hr, hout, hchannel, hinput⟩ := saved hq
    obtain ⟨y, hy, hout', hchannel', hinput'⟩ := saved hx
  · exact h.1 i j r y hr hy (hout.symm.trans (ho.trans hout'))
  · exact h.2.1 i j r y c hr hy (hchannel ▸ h1) (hchannel' ▸ h2)
  · exact h.2.2 i j r y d hr hy (hinput ▸ h1) (hinput' ▸ h2)

end

/-- After part reset no slot has a record, and every line is released (R31). -/
theorem linesAgree_reset : linesAgree .default Board.reset := by
  refine ⟨fun i r hr => ?_, fun o _ => ?_⟩
  · rw [node_default] at hr; cases hr
  · simp [Board.reset, Vector.get_eq_getElem]

/-! ### Every piece of work -/

theorem bindingsUnique_retable {cfg table : WorkingConfig} (h : bindingsUnique cfg) (nodes : table.nodes = cfg.nodes) :
    bindingsUnique table := by
  have node : ∀ i, table.node i = cfg.node i := fun i => by unfold WorkingConfig.node; rw [nodes]
  unfold bindingsUnique outputsUnique channelsUnique inputsUnique at h ⊢
  simpa only [node] using h

theorem bindingsUnique_torn : bindingsUnique (loadedConfig .torn) := bindingsUnique_of_unbound node_default

theorem outputsInv_work {s t : State} (h : Work s t) (hs : OutputsInv s) : OutputsInv t := by
  obtain ⟨lines, bindings, saving, image⟩ := hs
  cases h with
  | aside frame => rw [frame]; exact ⟨lines, bindings, saving, image⟩
  | board moves => exact ⟨moves.keep (fun _ _ => linesAgree_move bindings.1) lines, bindings, saving, image⟩
  | reset held =>
    refine ⟨linesAgree_reset, bindingsUnique_of_unbound node_default, nofun, ?_⟩
    show bindingsUnique (loadedConfig (if s.store.saving.isSome then .torn else s.store.image))
    split
    · exact bindingsUnique_torn
    · exact image
  | load pins =>
    refine ⟨?_, image, nofun, image⟩
    rw [loadedState_board]
    exact linesAgree_loadedBoard image.1 _ _
  | order q perm => exact ⟨linesAgree_congr lines rfl rfl fun _ => rfl, bindings, saving, image⟩
  | read f same => exact ⟨linesAgree_congr lines rfl rfl fun _ => rfl, bindings, saving, image⟩
  | drop p => exact ⟨linesAgree_congr lines rfl rfl fun _ => rfl, bindings, saving, image⟩
  | stepHold on still => exact ⟨linesAgree_congr lines rfl rfl fun _ => rfl, bindings, saving, image⟩
  | config cfg nodes =>
    exact ⟨linesAgree_congr lines nodes rfl fun _ => rfl, bindingsUnique_retable bindings nodes, saving, image⟩
  | put i rec passes => exact ⟨linesAgree_put lines bindings passes, bindingsUnique_put bindings passes, saving, image⟩
  | save job content =>
    refine ⟨lines, bindings, fun j hj => ?_, bindingsUnique_torn⟩
    obtain rfl := Option.some.inj hj
    rw [content]
    exact bindings
  | saved job saved readsBack =>
    refine ⟨lines, bindings, nofun, ?_⟩
    show bindingsUnique (loadedConfig (if readsBack then .bytes (encodeImage job.content) else .torn))
    split
    · exact bindingsUnique_encodeImage (saving job saved)
    · exact bindingsUnique_torn

end Sys2Proof.Machine
end

section
/-! SETTLEMENT. Lines, node states and bindings. -/

namespace Sys2Proof.Machine

/-- Settles O57: every change of a node state takes its line along, and tables change by puts that clash with nothing
and by loads of what was saved. -/
theorem linesAgreeWithNodeStates : Obligations.LinesAgreeWithNodeStates := by
  unfold Obligations.LinesAgreeWithNodeStates
  intro s t hs hstep
  exact step_keep (P := OutputsInv) (fun _ _ => outputsInv_work) (fun _ _ => id) (fun _ _ => id) hs hstep

end Sys2Proof.Machine
end

section
/-! SUPPORT. The laws right after part reset. -/

namespace Sys2Proof.Machine

theorem stateOf_reset (i : Slot) : Board.reset.stateOf i = .off := congrArg Node.state (node_reset i)

/-- Nothing is planned, nothing waits, nothing has a prerequisite. -/
theorem orderInv_reset : OrderInv State.reset := by
  have state (i : Slot) : State.reset.board.stateOf i = .off := stateOf_reset i
  have node (i : Slot) : State.reset.board.node i = Node.reset := node_reset i
  have unplanned (i : Slot) : (State.reset.board.node i).isUnplanned := by rw [node]; exact ⟨rfl, rfl, rfl⟩
  refine ⟨fun i h => ?_, fun i h => ?_, fun i h => ?_, fun i _ => ⟨state i, unplanned i⟩, nofun, fun h => absurd h Bool.false_ne_true,
    rfl, rfl, fun i => ⟨?_, ?_, unplanned i⟩⟩
  · rw [state] at h; cases h
  · rw [state] at h; cases h
  · rw [node] at h; cases h
  · rw [state]; rfl
  · rw [node]; rfl

theorem rampingRails_reset : State.reset.board.rampingRails State.reset.cfg = [] := by
  refine List.filter_eq_nil_iff.mpr fun i _ => ?_
  rw [show State.reset.board.stateOf i = .off from stateOf_reset i]
  nofun

theorem budgetInv_reset : BudgetInv State.reset := by
  unfold BudgetInv BudgetLaw
  rw [rampingRails_reset]
  exact ⟨.inl (Nat.zero_le _), nofun⟩

end Sys2Proof.Machine
end

section
/-! SETTLEMENT. The laws right after part reset. -/

namespace Sys2Proof.Machine

/-- Settles O58: nothing waits, nothing is on, nothing is bound. -/
theorem lawsHoldAtReset : Obligations.LawsHoldAtReset := by
  unfold Obligations.LawsHoldAtReset
  refine ⟨⟨QueueInv.nil.1, QueueInv.nil.2, rfl⟩, ⟨List.nodup_nil, Nat.zero_le 3⟩, ?_, ?_, ?_, ?_, orderInv_reset, budgetInv_reset⟩
  · exact ⟨List.nodup_nil, fun _ => ⟨rfl, rfl, rfl⟩, nofun, rfl⟩
  · exact (engineInv_iff _).mpr engineLaw_reset
  · exact (switchInv_iff _).mpr (switchLaw_rest (b := Board.reset) (fun i => node_reset i ▸ rfl) rfl)
  · exact ⟨linesAgree_reset, bindingsUnique_of_unbound node_default, nofun, bindingsUnique_of_unbound node_default⟩

end Sys2Proof.Machine
end

section
/-! SUPPORT. A state of the part that meets the laws of the switch and of the order, and a step that leaves it without
the second. -/

namespace Sys2Proof.Machine

/-- A SIGNAL without prerequisites on an output line. -/
def strayRecord (output : Fin 16) : NodeRecord where
  output := output
  polarity := .high
  levels := ⟨false, false, false, false⟩
  prereqs := []
  severity := .tolerated
  irreversible := false
  ramp := 1
  settle := 0
  discharge := 1
  body := .signal

/-- A node at rest as GOOD. -/
def strayNode : Node := { Node.reset with state := .good }

/-- A board in REVERSING under step hold: slots 0 and 1 are GOOD, slot 1 has the entry of its on action on the stack, and
the undo of slot 0, which is not PENDING, is still listed. -/
def strayBoard : Board :=
  { Board.reset with
    nodes := (Board.reset.nodes.set 0 strayNode).set 1 strayNode
    phase := .reversing
    stepHold := true
    issue := [⟨0, .undoOff⟩]
    stack := [⟨1, .on⟩]
    dwell := .running 1 0 }

/-- That board with a dwell that expires. -/
def strayState : State :=
  { State.reset with
    pending := [.dwellExpiry]
    cfg := { WorkingConfig.default with
      nodes := (WorkingConfig.default.nodes.set 0 (some (strayRecord 0))).set 1 (some (strayRecord 1)) }
    board := strayBoard }

/-- What the dwell's expiry leaves. -/
def afterStray : State := afterDwellExpiry { strayState with pending := [] }

theorem step_strayState : step strayState = .next afterStray := rfl

/-- Both slots at rest, the undo of slot 0 stays on the list while that of slot 1 joins it and is held. -/
theorem afterStray_order : afterStray.board.phase = .reversing
    ∧ afterStray.board.issue = [⟨0, .undoOff⟩, ⟨1, .undoOff⟩] := by decide +kernel

theorem switchInv_strayState : SwitchInv strayState := by
  unfold SwitchInv NodeInv
  decide +kernel

theorem orderInv_strayState : OrderInv strayState := by
  have alone : ∀ i, strayState.cfg.prereqs i = [] := by decide +kernel
  refine ⟨fun i _ p h => ?_, fun i _ p h => ?_, ?_, ?_, ?_, nofun, ?_, Nat.le_refl 1, ?_⟩
  · rw [alone] at h; cases h
  · rw [alone] at h; cases h
  · decide +kernel
  · unfold Node.isUnplanned; decide +kernel
  · decide +kernel
  · decide +kernel
  · intro a ha
    obtain rfl := List.mem_singleton.mp ha
    refine ⟨by decide +kernel, .inr ⟨rfl, fun d hd => ?_⟩⟩
    rw [alone] at hd
    cases hd

end Sys2Proof.Machine
end

section
/-! SETTLEMENT. The prerequisite law. -/

namespace Sys2Proof.Machine

/-- Refutes O59: the order of REVERSING allows one listed undo of a node that is not PENDING. With every node at rest the
engine lists the next undo behind it, and under step hold both stay listed at the end of the event. -/
theorem not_prerequisitesStayGood : ¬ Obligations.PrerequisitesStayGood := by
  unfold Obligations.PrerequisitesStayGood
  intro h
  obtain ⟨⟨_, _, _, _, _, _, order⟩, _⟩ :=
    h strayState afterStray switchInv_strayState orderInv_strayState step_strayState
  obtain ⟨phase, issue⟩ := afterStray_order
  rw [phase] at order
  obtain ⟨_, single, _⟩ := order
  rw [issue] at single
  exact absurd single (by decide)

end Sys2Proof.Machine
end

section
/-! SUPPORT. The end of an event, part by part. -/

namespace Sys2Proof.Machine

/-! ### The monitor's mode (R91, R92, R95) -/

theorem modeFor_continuous_iff (b : Board) : modeFor b = .continuous ↔ b.platform = .working ∨ b.phase ≠ .idle := by
  unfold modeFor
  split
  · rename_i h; exact ⟨fun _ => h, fun _ => rfl⟩
  · rename_i h; exact ⟨nofun, fun k => absurd k h⟩

theorem takeMode_same {m : Monitor} {b : Board} {now interval : Nat}
    (h : (takeMode m b now interval).mode = m.mode) : takeMode m b now interval = m := by
  rw [takeMode_mode] at h
  unfold takeMode
  rw [h]
  cases m.mode <;> rfl

theorem takeMode_sleep {m : Monitor} {b : Board} {now interval : Nat} (hm : m.mode = .continuous)
    (h : (takeMode m b now interval).mode = .sleep) : takeMode m b now interval = startSleep now interval := by
  rw [takeMode_mode] at h
  unfold takeMode
  rw [h, hm]

theorem takeMode_continuous {m : Monitor} {b : Board} {now interval : Nat} (hm : m.mode = .sleep)
    (h : (takeMode m b now interval).mode = .continuous) : takeMode m b now interval = startContinuous m now := by
  rw [takeMode_mode] at h
  unfold takeMode
  rw [h, hm]

/-! ### Level lines that arrive again (R117) -/

theorem isLevel_iff (m : WakeMode) : m.isLevel = true ↔ m = .levelHigh ∨ m = .levelLow := by
  cases m <;> simp [WakeMode.isLevel]

theorem mem_wakeLines (l : WakeLine) : l ∈ wakeLines := by revert l; decide

/-- A line is still to arrive again. -/
def State.StillToArrive (s0 s : State) (b : Board) (done : List SourceId) (l : WakeLine) : Prop :=
  ((s.cfg.line l).mode = .levelHigh ∨ (s.cfg.line l).mode = .levelLow) ∧ (s.qual l).state = .active ∧ lineId l ∉ done
    ∧ armed s.env b (lineId l) = true ∧ armed s0.env s0.board (lineId l) = false

theorem mem_rearmCandidates (s0 s : State) (b : Board) (done : List SourceId) (id : SourceId) :
    id ∈ rearmCandidates s0 s b done ↔ ∃ l, s0.StillToArrive s b done l ∧ id = lineId l := by
  simp only [rearmCandidates, List.mem_map, List.mem_filter, mem_wakeLines, true_and, State.isHeldLine,
    Bool.and_eq_true, isLevel_iff, beq_iff_eq, Bool.not_eq_true', List.contains_eq_mem, decide_eq_false_iff_not,
    and_assoc, eq_comm (a := id), State.StillToArrive]

theorem rearm_succ_of_none {s0 s : State} {settle : Board → Board} {n : Nat} {done : List SourceId} {b : Board}
    (h : ∀ l, ¬s0.StillToArrive s b done l) : rearm s0 s settle (n + 1) done b = b := by
  have none : rearmCandidates s0 s b done = [] :=
    List.eq_nil_iff_forall_not_mem.mpr fun id hid => by
      obtain ⟨l, hl, _⟩ := (mem_rearmCandidates s0 s b done id).mp hid
      exact h l hl
  simp only [rearm, none]

theorem rearm_succ_of_some {s0 s : State} {settle : Board → Board} {n : Nat} {done : List SourceId} {b : Board}
    (h : ∃ l, s0.StillToArrive s b done l) : ∃ l, s0.StillToArrive s b done l ∧ rearm s0 s settle (n + 1) done b =
      rearm s0 s settle n (lineId l :: done) (settle (arrive s.env b (lineId l))) := by
  obtain ⟨l0, hl0⟩ := h
  have some := (mem_rearmCandidates s0 s b done (lineId l0)).mpr ⟨l0, hl0, rfl⟩
  cases hc : rearmCandidates s0 s b done with
  | nil => rw [hc] at some; cases some
  | cons id rest =>
    have pick := chooseFrom_mem s.free n id rest
    rw [← hc] at pick
    obtain ⟨l, hl, hid⟩ := (mem_rearmCandidates s0 s b done _).mp pick
    refine ⟨l, hl, ?_⟩
    simp only [rearm, hc, ← hid]

/-! ### The unobserved marks (R100) -/

theorem isSleeping_iff (p : Platform) : p.isSleeping = true ↔ p ≠ .working := by
  cases p <;> simp [Platform.isSleeping]

theorem node_markDischarges (before after : Board) (i : Slot) :
    (markDischarges before after).node i = markUnobserved before after i (after.node i) := node_ofFn _ _ _

/-- A node that entered DISCHARGING takes the mark as platform and phase say, any other keeps what it has. -/
theorem markUnobserved_eq (before after : Board) (i : Slot) : markUnobserved before after i (after.node i) =
    { after.node i with unobserved := if after.stateOf i = .discharging ∧ before.stateOf i ≠ .discharging
      then after.phase = .idle ∧ after.platform ≠ .working else (after.node i).unobserved = true } := by
  unfold markUnobserved
  by_cases h : after.stateOf i = .discharging ∧ before.stateOf i ≠ .discharging
  · rw [if_pos (show (after.node i).state = .discharging ∧ _ from h)]
    simp only [if_pos h]
    congr 1
    rw [Bool.eq_iff_iff, Bool.and_eq_true, beq_iff_eq, isSleeping_iff, decide_eq_true_eq]
  · rw [if_neg (show ¬((after.node i).state = .discharging ∧ _) from h)]
    simp only [if_neg h, Bool.decide_eq_true]

/-! ### The order of notices (R195) -/

/-- Each block's own order stands, whatever the free order of the blocks. -/
theorem filter_interleave (free k : Nat) : ∀ (n : Nat) (l : List NoticeEntry),
    (interleave free n l).filter (fun x => x.block = k) = l.filter (fun x => x.block = k)
  | 0, _ => rfl
  | n + 1, l => by
    unfold interleave
    split
    · rfl
    · rfl
    · dsimp only
      split
      · rfl
      · rename_i x hx
        obtain ⟨hpick, before, after, rfl, hbefore⟩ := List.find?_eq_some_iff_append.mp hx
        have unmet : x ∉ before := fun hm => by
          have := hbefore x hm
          simp [hpick] at this
        have erased : (before ++ x :: after).erase x = before ++ after := by
          rw [List.erase_append_right _ unmet, List.erase_cons_head]
        rw [erased, List.filter_cons, filter_interleave free k n, List.filter_append, List.filter_append,
          List.filter_cons]
        split
        · rename_i hk
          have alone : before.filter (fun x => x.block = k) = [] := by
            refine List.filter_eq_nil_iff.mpr fun y hy hyk => ?_
            have := hbefore y hy
            simp only [decide_eq_true_eq] at hpick hk hyk
            rw [hyk, ← hk, hpick] at this
            simp at this
          rw [alone]
          rfl
        · rfl

theorem filter_orderNotices (free old k : Nat) (q : List NoticeEntry) :
    (orderNotices free old q).filter (fun x => x.block = k) = q.filter (fun x => x.block = k) := by
  unfold orderNotices
  rw [List.filter_append, filter_interleave, ← List.filter_append, List.take_append_drop]

theorem take_orderNotices (free old : Nat) (q : List NoticeEntry) : (orderNotices free old q).take old = q.take old := by
  unfold orderNotices
  have len : (interleave free 8 (q.drop old)).length = q.length - old := by
    rw [(interleave_perm free 8 (q.drop old)).length_eq, List.length_drop]
  rw [List.take_append, List.take_take, Nat.min_self, List.length_take]
  by_cases h : q.length ≤ old
  · have none : interleave free 8 (q.drop old) = [] := List.eq_nil_of_length_eq_zero (by omega)
    rw [none]
    simp
  · rw [show old - min old q.length = 0 by omega, List.take_zero, List.append_nil]

end Sys2Proof.Machine
end

section
/-! SETTLEMENT. The end of an event. -/

namespace Sys2Proof.Machine

/-- The first part: everything beside the board takes its place from it. -/
theorem finish_eq (s0 s : State) : finish s0 s =
    { s with
      free := s.free + 1
      board := finishBoard s0 s
      monitor := takeMode s.monitor (finishBoard s0 s) s.now s.cfg.settings.sleepInterval
      panel := s.panel.want (wantedPattern s.store.unconfigured (finishBoard s0 s)) s.now
      ledOn := (s.panel.want (wantedPattern s.store.unconfigured (finishBoard s0 s)) s.now).lit
      link := { s.link with attnLow := s.link.reply.isSome || !(finishBoard s0 s).notices.isEmpty } } := rfl

/-- The second part: the engine follows, or makes no change where an ENTER comes first (R7). -/
theorem settleEvent_cases (s0 s : State) : settleEvent s0 s = settleBoard s.env
    ∨ (settleEvent s0 s = id ∧ enterFirst s0 s = true) := by
  cases h : enterFirst s0 s with
  | false => exact .inl (funext fun b => by simp [settleEvent, h])
  | true => exact .inr ⟨funext fun b => by simp [settleEvent, h], rfl⟩

/-- Settles O3. -/
theorem theEndOfAnEvent : Obligations.TheEndOfAnEvent := by
  unfold Obligations.TheEndOfAnEvent
  refine ⟨fun s0 s => ?_, fun s0 s => ?_, fun e b => ⟨rfl, rfl, fun n => ?_⟩, fun s0 s settle n done b => ?_,
    fun before after => ⟨rfl, fun i => ?_⟩, fun free n q => ?_⟩
  · refine ⟨_, finish_eq s0 s, ?_, takeMode_same, takeMode_sleep, takeMode_continuous⟩
    rw [takeMode_mode]
    exact modeFor_continuous_iff _
  · refine ⟨settleEvent s0 s, (settleEvent_cases s0 s).imp_right fun ⟨hid, hfirst⟩ => ?_, rfl⟩
    obtain ⟨accepts, idle0, follow, recovery, lockout⟩ := enterFirst_cases hfirst
    obtain ⟨idle, enter⟩ := acceptsEnter_cases accepts
    exact ⟨hid, idle0, idle, follow, recovery, lockout, enter⟩
  · exact rfl
  · exact ⟨rfl, rearm_succ_of_none, rearm_succ_of_some⟩
  · rw [node_markDischarges]
    exact markUnobserved_eq before after i
  · intro block
    have same : block = NoticeEntry.block := by
      funext x
      show _ = x.notice.kind.block
      cases h : x.notice.kind <;> simp only [block, h] <;> rfl
    rw [same]
    exact ⟨take_orderNotices free n q, orderNotices_perm free n q, fun k => filter_orderNotices free n k q⟩

end Sys2Proof.Machine
end

section
/-! SUPPORT. Request frames: what a command's frame is, and what reading it back comes to (R190, R191, R199). -/

namespace Sys2Proof.Machine

theorem halfOfBytes_bytesOfHalf (h : Half) : halfOfBytes (h.setWidth 8) ((h >>> 8).setWidth 8) = h := by
  refine BitVec.eq_of_toNat_eq ?_
  have hlt : h.toNat < 65536 := h.isLt
  rw [halfOfBytes_toNat, BitVec.toNat_setWidth, BitVec.toNat_setWidth, BitVec.toNat_ushiftRight, Nat.shiftRight_eq_div_pow]
  omega

/-- A frame whose payload has the length its type calls for is handed to the type's owner, bytes beyond LEN or not. -/
theorem frameVerdict_exactly {type n : Nat} {payload : List Byte} (surplus : List Byte) (hn : n ≤ 32)
    (htype : requestLen (byte1 type) = some (.exactly n)) (hlen : payload.length = n) :
    frameVerdict (writeFrame type payload ++ surplus) = .request (byte1 type) payload := by
  have len : (byte1 payload.length).toNat = n := by rw [hlen]; exact byte1_toNat (by omega)
  simp only [writeFrame, List.cons_append, frameVerdict, len, htype, if_true]
  rw [if_neg (Nat.not_lt.mpr hn), if_neg (by rw [List.length_append]; omega), ← hlen, List.take_left]

theorem frameVerdict_any {type : Nat} {payload : List Byte} (surplus : List Byte) (hlen : payload.length ≤ 32)
    (htype : requestLen (byte1 type) = some .any) :
    frameVerdict (writeFrame type payload ++ surplus) = .request (byte1 type) payload := by
  have len : (byte1 payload.length).toNat = payload.length := byte1_toNat (by omega)
  simp only [writeFrame, List.cons_append, frameVerdict, len, htype]
  rw [if_neg (Nat.not_lt.mpr hlen), if_neg (by rw [List.length_append]; omega), List.take_left]

/-- What a command's frame is read back to, with any bytes beyond LEN behind it. -/
structure ReadsBack (c : Instr) (f : List Byte) (type : Nat) (payload : List Byte) : Prop where
  frame : f = writeFrame type payload
  short : payload.length ≤ 32
  verdict : ∀ surplus, frameVerdict (f ++ surplus) = .request (byte1 type) payload
  command : requestOfPayload (byte1 type) payload = some c

theorem readsBack_exactly {c : Instr} {f payload : List Byte} (type n : Nat) (frame : writeFrame type payload = f)
    (hn : n ≤ 32) (htype : requestLen (byte1 type) = some (.exactly n)) (hlen : payload.length = n)
    (command : requestOfPayload (byte1 type) payload = some c) : ∃ type payload, ReadsBack c f type payload :=
  ⟨type, payload, frame.symm, by omega, fun surplus => frame ▸ frameVerdict_exactly surplus hn htype hlen, command⟩

/-- Every request of Table 11-1 is read back from its frame. -/
theorem exists_readsBack {c : Instr} {f : List Byte} (wf : c.wf = true) (h : requestFrame c = some f) :
    ∃ type payload, ReadsBack c f type payload := by
  cases c with
  | status => exact readsBack_exactly 0x01 0 (Option.some.inj h) (by decide) rfl rfl rfl
  | enter target dwell =>
    refine readsBack_exactly 0x02 3 (Option.some.inj h) (by decide) rfl rfl ?_
    show some (Instr.enter target (halfOfBytes (dwell.setWidth 8) ((dwell >>> 8).setWidth 8))) = _
    rw [halfOfBytes_bytesOfHalf]
  | wake => exact readsBack_exactly 0x03 0 (Option.some.inj h) (by decide) rfl rfl rfl
  | checkin => exact readsBack_exactly 0x04 0 (Option.some.inj h) (by decide) rfl rfl rfl
  | hold field => exact readsBack_exactly 0x05 1 (Option.some.inj h) (by decide) rfl rfl rfl
  | proceed => exact readsBack_exactly 0x06 0 (Option.some.inj h) (by decide) rfl rfl rfl
  | last => exact readsBack_exactly 0x07 0 (Option.some.inj h) (by decide) rfl rfl rfl
  | nodeGet slot => exact readsBack_exactly 0x10 1 (Option.some.inj h) (by decide) rfl rfl rfl
  | nodePut payload =>
    have short : payload.length ≤ 32 := of_decide_eq_true wf
    have frame : writeFrame 0x11 payload = f := Option.some.inj h
    exact ⟨0x11, payload, frame.symm, short, fun surplus => frame ▸ frameVerdict_any surplus short rfl, rfl⟩
  | clearFault slot => exact readsBack_exactly 0x12 1 (Option.some.inj h) (by decide) rfl rfl rfl
  | readRail slot => exact readsBack_exactly 0x13 1 (Option.some.inj h) (by decide) rfl rfl rfl
  | sourceGet id => exact readsBack_exactly 0x18 1 (Option.some.inj h) (by decide) rfl rfl rfl
  | sourcePut p =>
    refine readsBack_exactly 0x19 9 (Option.some.inj h) (by decide) rfl rfl ?_
    show some (Instr.sourcePut ⟨p.id, p.mode, p.debounce, p.edgeCount,
      halfOfBytes (p.window.setWidth 8) ((p.window >>> 8).setWidth 8), p.armed, p.priority, p.policy⟩) = _
    rw [halfOfBytes_bytesOfHalf]
  | settingsGet => exact readsBack_exactly 0x1C 0 (Option.some.inj h) (by decide) rfl rfl rfl
  | settingsPut p =>
    refine readsBack_exactly 0x1D 8 (Option.some.inj h) (by decide) rfl rfl ?_
    show some (Instr.settingsPut ⟨p.budget, p.mode,
      halfOfBytes (p.resumeDeadline.setWidth 8) ((p.resumeDeadline >>> 8).setWidth 8), p.holdTime,
      halfOfBytes (p.sleepInterval.setWidth 8) ((p.sleepInterval >>> 8).setWidth 8), p.acPolicy⟩) = _
    rw [halfOfBytes_bytesOfHalf, halfOfBytes_bytesOfHalf]
  | save => exact readsBack_exactly 0x1E 0 (Option.some.inj h) (by decide) rfl rfl rfl
  | _ => cases h

/-- A request is a write of its frame, handed to its owner. -/
theorem exec_request {c : Instr} {f : List Byte} (h : requestFrame c = some f) (s : State) :
    exec c s = .next (afterRequest c s)
      ∧ ∃ type payload owner, f = writeFrame type payload ∧ afterRequest c s = s.request type payload owner := by
  cases c with
  | status => exact ⟨rfl, 0x01, [], fun s => .tell s (statusContents s), (Option.some.inj h).symm, rfl⟩
  | settingsGet =>
    exact ⟨rfl, 0x1C, [], fun s => .tell s (settingsBytes s.cfg.settings), (Option.some.inj h).symm, rfl⟩
  | enter | wake | checkin | hold | proceed | last | nodeGet | nodePut | clearFault | readRail | sourceGet | sourcePut
  | settingsPut | save => exact ⟨rfl, _, _, _, (Option.some.inj h).symm, rfl⟩
  | _ => cases h

/-! ### Writes that nobody takes -/

section
variable {s : State}

theorem writeCase_of_down (h : s.isUp = false) : s.writeCase = .silent := by
  unfold State.writeCase
  simp [h]

theorem writeCase_of_full (h : s.isUp = true) (hr : s.link.reply.isSome = true) : s.writeCase = .full := by
  unfold State.writeCase
  simp [h, hr]

theorem request_of_down (h : s.isUp = false) (type : Nat) (payload : List Byte) (owner : State → Answer) :
    s.request type payload owner = s.putAcks [false] := by
  simp only [State.request, State.refuseWrite, writeCase_of_down h]

theorem request_of_full (h : s.isUp = true) (hr : s.link.reply.isSome = true) (type : Nat) (payload : List Byte)
    (owner : State → Answer) :
    s.request type payload owner = s.putAcks (true :: List.replicate (writeFrame type payload).length false) := by
  simp only [State.request, State.refuseWrite, writeCase_of_full h hr]
  rfl

theorem afterWrite_of_down (h : s.isUp = false) (bytes : List Byte) : afterWrite bytes s = s.putAcks [false] := by
  simp only [afterWrite, State.refuseWrite, writeCase_of_down h]

theorem afterWrite_of_full (h : s.isUp = true) (hr : s.link.reply.isSome = true) (bytes : List Byte) :
    afterWrite bytes s = s.putAcks (true :: List.replicate bytes.length false) := by
  simp only [afterWrite, State.refuseWrite, writeCase_of_full h hr]
  rfl

/-! ### Writes into an empty slot -/

theorem afterWrite_ignored (h : s.isReady) {bytes : List Byte} (hv : frameVerdict bytes = .ignored) :
    afterWrite bytes s = s.putAcks (acksOfWrite bytes) := by
  simp only [afterWrite, State.refuseWrite, writeCase_of_ready h, hv]

theorem afterWrite_badFrame (h : s.isReady) {bytes : List Byte} (hv : frameVerdict bytes = .badFrame) :
    afterWrite bytes s = s.placeReply bytes (byteAt bytes 0).toNat .frame [] := by
  simp only [afterWrite, writeCase_of_ready h, hv]

theorem afterWrite_badType (h : s.isReady) {bytes : List Byte} (hv : frameVerdict bytes = .badType) :
    afterWrite bytes s = s.placeReply bytes (byteAt bytes 0).toNat .type [] := by
  simp only [afterWrite, writeCase_of_ready h, hv]

theorem afterWrite_request (h : s.isReady) {bytes payload : List Byte} {type : Byte} {c : Instr}
    (hv : frameVerdict bytes = .request type payload) (hc : requestOfPayload type payload = some c) :
    afterWrite bytes s = (afterRequest c s).putAcks (acksOfWrite bytes) := by
  simp only [afterWrite, writeCase_of_ready h, hv, hc]

/-- The acknowledge bits of a LEN above 32. -/
theorem acksOfWrite_long {type len : Byte} {rest : List Byte} (h : 32 < len.toNat) :
    acksOfWrite (type :: len :: rest) = true :: true :: List.replicate (rest.length + 1) false := by
  simp only [acksOfWrite]
  exact if_pos h

/-- The acknowledge bits of a frame that ends before its LEN says, and of one with bytes beyond LEN. -/
theorem acksOfWrite_short {type len : Byte} {rest : List Byte} (hlen : len.toNat ≤ 32) (h : rest.length ≤ len.toNat) :
    acksOfWrite (type :: len :: rest) = List.replicate (rest.length + 3) true := by
  simp only [acksOfWrite]
  rw [if_neg (Nat.not_lt.mpr hlen), Nat.min_eq_left h, Nat.sub_eq_zero_of_le h, List.replicate_zero, List.append_nil]
  rfl

theorem acksOfWrite_surplus {type len : Byte} {rest : List Byte} (hlen : len.toNat ≤ 32) (h : len.toNat ≤ rest.length) :
    acksOfWrite (type :: len :: rest)
      = List.replicate (len.toNat + 3) true ++ List.replicate (rest.length - len.toNat) false := by
  simp only [acksOfWrite]
  rw [if_neg (Nat.not_lt.mpr hlen), Nat.min_eq_right h]
  rfl

theorem acksOfWrite_append {type : Nat} {payload surplus : List Byte} (h : payload.length ≤ 32) :
    acksOfWrite (writeFrame type payload ++ surplus)
      = List.replicate ((writeFrame type payload).length + 1) true ++ List.replicate surplus.length false := by
  have len : (byte1 payload.length).toNat = payload.length := byte1_toNat (by omega)
  have := acksOfWrite_surplus (type := byte1 type) (len := byte1 payload.length) (rest := payload ++ surplus)
    (by rw [len]; exact h) (by rw [len, List.length_append]; omega)
  rw [len, List.length_append, Nat.add_sub_cancel_left] at this
  exact this

end

/-! ### The verdict on a faulty frame (R191) -/

theorem frameVerdict_unfinished {type len : Byte} {rest : List Byte} (hlen : len.toNat ≤ 32)
    (h : rest.length < len.toNat) : frameVerdict (type :: len :: rest) = .badFrame := by
  simp only [frameVerdict]
  rw [if_neg (Nat.not_lt.mpr hlen), if_pos h]

theorem frameVerdict_unlisted {type len : Byte} {rest : List Byte} (hlen : len.toNat ≤ 32)
    (h : len.toNat ≤ rest.length) (htype : requestLen type = none) : frameVerdict (type :: len :: rest) = .badType := by
  simp only [frameVerdict, htype]
  rw [if_neg (Nat.not_lt.mpr hlen), if_neg (Nat.not_lt.mpr h)]

theorem frameVerdict_otherLen {type len : Byte} {rest : List Byte} {n : Nat} (hlen : len.toNat ≤ 32)
    (h : len.toNat ≤ rest.length) (htype : requestLen type = some (.exactly n)) (hn : len.toNat ≠ n) :
    frameVerdict (type :: len :: rest) = .badFrame := by
  simp only [frameVerdict, htype]
  rw [if_neg (Nat.not_lt.mpr hlen), if_neg (Nat.not_lt.mpr h), if_neg hn]

end Sys2Proof.Machine
end

section
/-! SETTLEMENT. Frames of requests. -/

namespace Sys2Proof.Machine

/-- Settles O4, request by request. -/
theorem requestFramesReadBack : Obligations.RequestFramesReadBack := by
  unfold Obligations.RequestFramesReadBack
  intro c f address wf h
  obtain ⟨type, payload, _, _, verdict, command⟩ := exists_readsBack wf h
  have := verdict []
  rw [List.append_nil] at this
  simp only [commandOfWrite, this, command]

/-- Settles O5, by what the write finds. -/
theorem untakenWritesChangeNothing : Obligations.UntakenWritesChangeNothing := by
  unfold Obligations.UntakenWritesChangeNothing
  refine ⟨fun c f s h => ?_, fun s type len rest ready hlen => ?_, fun s p ready hp => ?_,
    fun s c f surplus ready wf h => ?_, fun s address => rfl⟩
  · rcases h with h | rfl | rfl
    · obtain ⟨hexec, type, payload, owner, rfl, hreq⟩ := exec_request h s
      rw [hexec, hreq]
      exact ⟨fun hd => by rw [request_of_down hd], fun hu hr => by rw [request_of_full hu hr]⟩
    iterate 2
      exact ⟨fun hd => congrArg Host.Outcome.next (afterWrite_of_down hd f),
        fun hu hr => congrArg Host.Outcome.next (afterWrite_of_full hu hr f)⟩
  · have verdict : frameVerdict (type :: len :: rest) = .ignored := by
      simp only [frameVerdict]
      exact if_pos hlen
    exact congrArg Host.Outcome.next ((afterWrite_ignored ready verdict).trans (by rw [acksOfWrite_long hlen]))
  · show Host.Outcome.next (s.request 0x11 p (nodePutAnswer p)) = _
    unfold State.request
    rw [writeCase_of_ready ready]
    simp only [if_pos (show maxLen < p.length from hp)]
    rfl
  · obtain ⟨type, payload, frame, short, verdict, command⟩ := exists_readsBack wf h
    refine ⟨afterRequest c s, (exec_request h s).1, congrArg Host.Outcome.next ?_⟩
    rw [afterWrite_request ready (verdict surplus) command, frame, acksOfWrite_append short]

/-- Settles O6: each of the checks of R191 in turn. -/
theorem faultyFramesAreAnswered : Obligations.FaultyFramesAreAnswered := by
  unfold Obligations.FaultyFramesAreAnswered
  refine fun s type ready => ⟨congrArg Host.Outcome.next (afterWrite_badFrame ready rfl), fun len rest hlen =>
    ⟨fun h => congrArg Host.Outcome.next ?_, fun h htype => congrArg Host.Outcome.next ?_,
      fun n h htype hn => congrArg Host.Outcome.next ?_⟩⟩
  · rw [afterWrite_badFrame ready (frameVerdict_unfinished hlen h), State.placeReply,
      acksOfWrite_short hlen (Nat.le_of_lt h)]
    rfl
  · rw [afterWrite_badType ready (frameVerdict_unlisted hlen h htype), State.placeReply, acksOfWrite_surplus hlen h]
    rfl
  · rw [afterWrite_badFrame ready (frameVerdict_otherLen hlen h htype hn), State.placeReply, acksOfWrite_surplus hlen h]
    rfl

end Sys2Proof.Machine
end

section
/-! SUPPORT. Read transactions and posting (R193 to R195). -/

namespace Sys2Proof.Machine

section
variable {s : State}

theorem afterReadTransaction_of_up (h : s.isUp = true) (op : ReadOp) : afterReadTransaction op s = (match op with
    | .first => s.beginRead
    | .last n => s.endRead n
    | .whole n => s.beginRead.endRead n) := if_pos h

theorem beginRead_of_reply {f : List Byte} (h : s.link.reply = some f) : s.beginRead =
    { s with link := { s.link with read := some ⟨.reply, f⟩, acks := [true], sent := [] } } := by
  simp only [State.beginRead, chooseFrame, h]

theorem beginRead_of_nothing (hr : s.link.reply = none) (hn : s.board.notices = []) : s.beginRead =
    { s with link := { s.link with read := some ⟨.empty, [0, 0]⟩, acks := [true], sent := [] } } := by
  have chosen : chooseFrame s = ⟨.empty, [0, 0]⟩ := by simp only [chooseFrame, hr, hn, emptyFrame]
  simp only [State.beginRead, chosen]

/-- The copy of an entry clears its own mark, and no other kind's. -/
theorem map_clearMerged {x : NoticeEntry} {l : List NoticeEntry} (h : ∀ y ∈ l, y.notice.kind ≠ x.notice.kind) :
    (x :: l).map (clearMerged x.notice.kind) = { x with merged := false } :: l := by
  have rest : l.map (clearMerged x.notice.kind) = l :=
    (List.map_congr_left fun y hy => if_neg (h y hy)).trans (List.map_id l)
  rw [List.map_cons, rest, clearMerged, if_pos rfl]

theorem beginRead_of_notice {x : NoticeEntry} {l : List NoticeEntry} (hr : s.link.reply = none)
    (hn : s.board.notices = x :: l) (h : ∀ y ∈ l, y.notice.kind ≠ x.notice.kind) : s.beginRead =
    { s with
      board := { s.board with notices := { x with merged := false } :: l }
      link := { s.link with read := some ⟨.notice x.notice.kind, noticeFrame x⟩, acks := [true], sent := [] } } := by
  simp only [State.beginRead, chooseFrame, hr, hn, map_clearMerged h]

theorem endRead_eq {r : OpenRead} (h : s.link.read = some r) (n : Nat) : s.endRead n =
    State.attn { (if r.frame.length ≤ n then s.removeFrame r.source else s) with
      link := { (if r.frame.length ≤ n then s.removeFrame r.source else s).link with
        read := none, sent := bytesSent r.frame n } } := by
  simp only [State.endRead, h]

end

/-- The frame of a notice: TYPE, LEN, the merge count, its fields (Table 11-4). -/
theorem noticeFrame_eq (x : NoticeEntry) : noticeFrame x = byte1 x.notice.kind.type
    :: byte1 (1 + (noticeFields x.notice).length) :: byte1 x.count :: noticeFields x.notice := by
  rw [noticeFrame, writeFrame, List.length_cons, Nat.add_comm]

/-! ### Posting -/

theorem postInto_new {q : List NoticeEntry} {n : Notice} (h : ∀ x ∈ q, x.notice.kind ≠ n.kind) :
    postInto q n = q ++ [⟨n, 1, false⟩] := by
  unfold postInto
  refine if_neg fun hany => ?_
  obtain ⟨x, hx, hk⟩ := List.any_eq_true.mp hany
  exact h x hx (of_decide_eq_true hk)

theorem mergeNotice_of_ne {n : Notice} {x : NoticeEntry} (h : x.notice.kind ≠ n.kind) : mergeNotice n x = x :=
  if_neg h

theorem postInto_merged {l r : List NoticeEntry} {x : NoticeEntry} {n : Notice} (hx : x.notice.kind = n.kind)
    (h : ∀ y ∈ l ++ r, y.notice.kind ≠ n.kind) :
    postInto (l ++ x :: r) n = l ++ ⟨n, min 255 (x.count + 1), true⟩ :: r := by
  have left : l.map (mergeNotice n) = l :=
    (List.map_congr_left fun y hy => mergeNotice_of_ne (h y (List.mem_append_left r hy))).trans (List.map_id l)
  have right : r.map (mergeNotice n) = r :=
    (List.map_congr_left fun y hy => mergeNotice_of_ne (h y (List.mem_append_right l hy))).trans (List.map_id r)
  have any : (l ++ x :: r).any (fun y => y.notice.kind = n.kind) = true :=
    List.any_eq_true.mpr ⟨x, List.mem_append_right l List.mem_cons_self, decide_eq_true hx⟩
  unfold postInto
  rw [if_pos any, List.map_append, List.map_cons, left, right, mergeNotice, if_pos hx]

end Sys2Proof.Machine
end

section
/-! SETTLEMENT. Read transactions and posting. -/

namespace Sys2Proof.Machine

/-- Settles O7: the begin by what waits, the end by what the read had opened, the fields and codes by their tables. -/
theorem readTransactions : Obligations.ReadTransactions := by
  unfold Obligations.ReadTransactions
  refine ⟨fun s up => ⟨fun f hr => ?_, fun hr hn => ?_, fun x l hr hn hl => ?_, fun n => ⟨s.beginRead, ?_, ?_⟩⟩,
    fun s op down => ?_, fun s r n up hread => ?_, fun k => by cases k <;> rfl, fun n => ?_,
    fun o => rfl, rfl, rfl, rfl, rfl, rfl, rfl, rfl, rfl, rfl, rfl, rfl⟩
  · exact congrArg Host.Outcome.next ((afterReadTransaction_of_up up .first).trans (beginRead_of_reply hr))
  · exact congrArg Host.Outcome.next ((afterReadTransaction_of_up up .first).trans (beginRead_of_nothing hr hn))
  · rw [← noticeFrame_eq]
    exact congrArg Host.Outcome.next ((afterReadTransaction_of_up up .first).trans (beginRead_of_notice hr hn hl))
  · exact congrArg Host.Outcome.next (afterReadTransaction_of_up up .first)
  · exact congrArg Host.Outcome.next ((afterReadTransaction_of_up up (.whole n)).trans
      (afterReadTransaction_of_up (s := s.beginRead) up (.last n)).symm)
  · exact congrArg Host.Outcome.next (if_neg (by simp [down]))
  · refine ⟨s.endRead n, congrArg Host.Outcome.next (afterReadTransaction_of_up up (.last n)), ?_⟩
    rw [endRead_eq hread]
    by_cases hn : r.frame.length ≤ n
    · simp only [if_pos hn]
      cases hsource : r.source with
      | reply => exact ⟨rfl, rfl, fun h => absurd hn (Nat.not_le.mpr h), fun _ => ⟨rfl, rfl⟩⟩
      | notice k => exact ⟨rfl, rfl, fun h => absurd hn (Nat.not_le.mpr h), fun _ => ⟨rfl, rfl⟩⟩
      | empty => exact ⟨rfl, rfl, fun h => absurd hn (Nat.not_le.mpr h), fun _ => ⟨rfl, rfl⟩⟩
    · simp only [if_neg hn]
      exact ⟨rfl, rfl, fun _ => ⟨rfl, rfl⟩, fun h => absurd h hn⟩
  · cases n with
    | fault slot kind sample phase transition consequence => cases sample <;> cases transition <;> rfl
    | button length phase transition => cases transition <;> rfl
    | _ => rfl

/-- Settles O8, by whether the kind is queued. -/
theorem postingMergesByKind : Obligations.PostingMergesByKind := by
  unfold Obligations.PostingMergesByKind
  refine fun q n => ⟨postInto_new, ?_⟩
  rintro l x r rfl hx h
  exact postInto_merged hx h

end Sys2Proof.Machine
end

section
/-! SUPPORT. Requests that tell: NODE_GET, READ_RAIL, SOURCE_GET, SETTINGS_GET, and the replacement of the settings. -/

namespace Sys2Proof.Machine

theorem finOf_of_le {n : Nat} {b : Byte} (h : n ≤ b.toNat) : finOf n b = none := dif_neg (Nat.not_lt.mpr h)

theorem finOf_of_eq {n : Nat} {b : Byte} {i : Fin n} (h : b.toNat = i.val) : finOf n b = some i := by
  unfold finOf
  rw [dif_pos (h ▸ i.isLt)]
  exact congrArg some (Fin.ext h)

/-- The frame of a reply to a request that is answered with contents. -/
theorem replyFrame_ok (type : Nat) (c : List Byte) :
    replyFrame type .ok c = byte1 (type + 0x80) :: byte1 (c.length + 1) :: 0x00 :: c := rfl

/-! ### Slots -/

section
variable {s : State} {slot : Byte}

theorem nodeGet_refused (ready : s.isReady) (h : 20 ≤ slot.toNat) :
    exec (.nodeGet slot) s = .next (s.withReply 3 (refusal 0x10 0x12)) :=
  congrArg Host.Outcome.next (request_refused ready 0x10 [slot] (by simp) (nodeGetAnswer slot) .range
    (by simp only [nodeGetAnswer, finOf_of_le h]))

theorem nodeGet_told (ready : s.isReady) {i : Slot} (h : slot.toNat = i.val) : exec (.nodeGet slot) s =
    .next (s.withReply 3 (replyFrame 0x10 .ok (recordBytes i (s.cfg.node i) ++ liveBytes s.cfg s.board i))) :=
  congrArg Host.Outcome.next (request_told ready 0x10 [slot] (by simp) (nodeGetAnswer slot) _
    (by simp only [nodeGetAnswer, finOf_of_eq h]))

theorem readRail_refused (ready : s.isReady) (h : readRailAnswer slot s = .refuse s .range) :
    exec (.readRail slot) s = .next (s.withReply 3 (refusal 0x13 0x12)) :=
  congrArg Host.Outcome.next (request_refused ready 0x13 [slot] (by simp) (readRailAnswer slot) .range h)

theorem readRail_told (ready : s.isReady) {c : List Byte} (h : readRailAnswer slot s = .tell s c) :
    exec (.readRail slot) s = .next (s.withReply 3 (replyFrame 0x13 .ok c)) :=
  congrArg Host.Outcome.next (request_told ready 0x13 [slot] (by simp) (readRailAnswer slot) c h)

end

theorem optNum2_length (o : Option Nat) : (optNum2 o).length = 3 := by cases o <;> rfl

theorem optNum2_eq (o : Option Nat) : optNum2 o = (match o with
    | none => [0, 0, 0]
    | some mv => [1, byte1 mv, byte1 (mv / 256)]) := by cases o <;> rfl

/-- The fault kind's byte, 0xFF unless FAULTED. -/
theorem faultByte_eq (st : NodeState) : optByte (st.faultKind.map FaultKind.code) = (match st with
    | .faulted k => byte1 k.code
    | _ => 0xFF) := by cases st <;> rfl

/-- A fault report's sample in a reply: held for an ANALOG source. -/
theorem faultSample_bytes (cfg : WorkingConfig) (b : Board) (i : Slot) :
    optNum2 (faultSample cfg b i) = (match cfg.node i, (b.node i).lastSample with
      | some r, some mv => if r.body.isAnalog then [1, byte1 mv, byte1 (mv / 256)] else [0, 0, 0]
      | _, _ => [0, 0, 0]) := by
  unfold faultSample
  cases cfg.node i with
  | none => rfl
  | some r =>
    cases (b.node i).lastSample with
    | none => dsimp only; split <;> rfl
    | some mv => dsimp only; split <;> rfl

theorem isHigh_eq (l : Level) : isHigh l = (l == .high) := by cases l <;> rfl

/-- The polarity byte: bit 0 the output's, bit 1 that of a digital input or an acknowledge line. -/
theorem polarityByte_eq (r : NodeRecord) : polarityByte r = byte1 ((if r.polarity == .high then 1 else 0)
    + match r.body with
      | .rail (.digital _ pol _ _) _ _ _ => if pol == .high then 2 else 0
      | .handshake _ pol _ => if pol == .high then 2 else 0
      | _ => 0) := by
  unfold polarityByte
  rw [isHigh_eq]
  rcases r.body with ⟨_ | _ | _, _, _, _⟩ | _ | _ <;> simp only [inputPolarity, isHigh_eq] <;> rfl

theorem classByte_eq (r : NodeRecord) : classByte r
    = byte1 ((if r.severity == .critical then 1 else 0) + (if r.irreversible then 2 else 0)) := by
  simp only [classByte, beq_iff_eq]

/-- A record's bytes, with each field written where its kind holds it (Table 11-7). -/
theorem recordBytes_some (i : Slot) (r : NodeRecord) : recordBytes i (some r) =
    [byte1 i.val, byte1 (kindCode (some r))]
    ++ [byte1 (sourceCode r.body), byte1 r.output.val, byte1 (inputLine r.body), polarityByte r, levelsByte r.levels,
      classByte r]
    ++ prereqBytes r.prereqs ++ railBytes r.body ++ byte2 r.ramp ++ byte2 r.settle ++ byte2 r.discharge
    ++ [countsByte r.body, 0] ++ windowPart r.body := rfl

/-! ### Settings (R205) -/

theorem arbiterModeOf_eq (b : Byte) :
    arbiterModeOf b = if 1 < b.toNat then none else some (if b = 0 then .fixed else .rotating) := by
  have zero : b = 0 ↔ b.toNat = 0 := ⟨fun h => by rw [h]; rfl, fun h => BitVec.eq_of_toNat_eq h⟩
  unfold arbiterModeOf
  rw [if_congr zero rfl rfl]
  match b.toNat with
  | 0 => rfl
  | 1 => rfl
  | n + 2 => exact (if_pos (by omega)).symm

theorem acPolicyOf_eq (b : Byte) :
    acPolicyOf b = if 1 < b.toNat then none else some (if b = 0 then .stayOff else .powerOn) := by
  have zero : b = 0 ↔ b.toNat = 0 := ⟨fun h => by rw [h]; rfl, fun h => BitVec.eq_of_toNat_eq h⟩
  unfold acPolicyOf
  rw [if_congr zero rfl rfl]
  match b.toNat with
  | 0 => rfl
  | 1 => rfl
  | n + 2 => exact (if_pos (by omega)).symm

/-- The settings as a payload sends them, its codes being in their lists. -/
def sentSettings (p : SettingsPayload) : Settings :=
  ⟨p.budget.toNat, if p.mode = 0 then .fixed else .rotating, p.resumeDeadline.toNat, p.holdTime.toNat,
    p.sleepInterval.toNat, if p.acPolicy = 0 then .stayOff else .powerOn⟩

theorem settingsOfPayload_eq (p : SettingsPayload) : settingsOfPayload p =
    if 1 < p.mode.toNat ∨ 1 < p.acPolicy.toNat then none else some (sentSettings p) := by
  unfold settingsOfPayload
  rw [arbiterModeOf_eq, acPolicyOf_eq]
  by_cases hm : 1 < p.mode.toNat
  · rw [if_pos hm]; exact (if_pos (Or.inl hm)).symm
  · by_cases ha : 1 < p.acPolicy.toNat
    · rw [if_neg hm, if_pos ha]; exact (if_pos (Or.inr ha)).symm
    · rw [if_neg hm, if_neg ha]; exact (if_neg (not_or.mpr ⟨hm, ha⟩)).symm

theorem clampSettings_sent (p : SettingsPayload) : clampSettings (sentSettings p) =
    { sentSettings p with
      budget := max 1 (sentSettings p).budget
      resumeDeadline := min 600 (sentSettings p).resumeDeadline
      holdTime := max 1 (min 15 (sentSettings p).holdTime)
      sleepInterval := max 10 (min 1000 (sentSettings p).sleepInterval) } := by
  have budget : (sentSettings p).budget ≤ 255 := Nat.le_of_lt_succ p.budget.isLt
  simp only [clampSettings, clamp, Nat.min_eq_right budget, Nat.zero_max]

/-- The status of a put as one byte. -/
theorem putCode (p : Prop) [Decidable p] :
    byte1 (if p then Status.ok else .clamped).code = if p then 0x00 else 0x02 := by
  split <;> rfl

theorem settingsPut_started {s : State} (ready : s.isReady) {p : SettingsPayload} {t : State} {st : Status}
    (h : settingsPutAnswer p s = .starts t st) :
    exec (.settingsPut p) s = .next (finish s (t.withReply 10 [0x9D, 1, byte1 st.code])) :=
  congrArg Host.Outcome.next
    (request_started ready 0x1D (settingsPayloadBytes p) (show 8 ≤ 32 by decide) (settingsPutAnswer p) t st h)

theorem settingsPut_refused {s : State} (ready : s.isReady) {p : SettingsPayload} {st : Status}
    (h : settingsPutAnswer p s = .refuse s st) :
    exec (.settingsPut p) s = .next (s.withReply 10 (refusal 0x1D st.code)) :=
  congrArg Host.Outcome.next
    (request_refused ready 0x1D (settingsPayloadBytes p) (show 8 ≤ 32 by decide) (settingsPutAnswer p) st h)

end Sys2Proof.Machine
end

section
/-! SETTLEMENT. Requests that tell. -/

namespace Sys2Proof.Machine

/-- Settles O11, reply by reply and field by field. -/
theorem slotReadsTellTheSlot : Obligations.SlotReadsTellTheSlot := by
  unfold Obligations.SlotReadsTellTheSlot
  refine ⟨fun s slot ready => ⟨nodeGet_refused ready, fun i hi => ?_⟩, fun s slot ready => ⟨fun h => ?_, fun i hi =>
    ⟨fun h => ?_, fun r hu hr ha => ?_⟩⟩, fun i => rfl, fun i r => ?_, rfl, fun k => rfl, rfl, rfl⟩
  · have len : (recordBytes i (s.cfg.node i) ++ liveBytes s.cfg s.board i).length + 1
        = 7 + (recordBytes i (s.cfg.node i)).length := by
      simp only [liveBytes, List.length_append, List.length_cons, List.length_nil, optNum2_length]
      omega
    rw [nodeGet_told ready hi, replyFrame_ok, len, liveBytes, faultSample_bytes, faultByte_eq]
    simp only [List.cons_append, List.nil_append, List.append_assoc]
    rfl
  · exact readRail_refused ready (by simp only [readRailAnswer, finOf_of_le h])
  · refine readRail_refused ready ?_
    simp only [readRailAnswer, finOf_of_eq hi]
    refine if_neg fun htell => ?_
    simp only [Bool.and_eq_true, Bool.not_eq_true', Option.any_eq_true] at htell
    obtain ⟨hconf, r, hr, hanalog⟩ := htell
    rcases h with hu | hnot
    · rw [hu] at hconf; cases hconf
    · rw [hnot r hr] at hanalog; cases hanalog
  · have told : readRailAnswer slot s = .tell s (railContents (s.board.node i)) := by
      simp only [readRailAnswer, finOf_of_eq hi, hu, hr, Option.any_some, ha, Bool.not_false, Bool.and_self, if_true]
    have len : (railContents (s.board.node i)).length + 1 = 8 := by
      simp only [railContents, List.length_append, optNum2_length]
      rfl
    rw [readRail_told ready told, replyFrame_ok, len, railContents, optNum2_eq, faultByte_eq]
    rfl
  · rw [recordBytes_some, polarityByte_eq, classByte_eq]
    obtain ⟨_, _, _, _, _, _, _, _, _, body⟩ := r
    rcases body with ⟨_ | _ | _, _, _, _⟩ | _ | _ <;> rfl

/-- Settles O13. -/
theorem settingsAreReadAndReplaced : Obligations.SettingsAreReadAndReplaced := by
  unfold Obligations.SettingsAreReadAndReplaced
  refine ⟨fun s ready => ⟨congrArg Host.Outcome.next (request_told ready 0x1C [] (by simp)
    (fun s => .tell s (settingsBytes s.cfg.settings)) _ rfl), fun p => ?_⟩, rfl, rfl⟩
  split
  · rename_i hbusy
    exact settingsPut_refused ready (if_pos hbusy)
  · rename_i hfree
    have answer : settingsPutAnswer p s = match settingsOfPayload p with
      | none => .refuse s .range
      | some t => .starts { s with cfg := { s.cfg with settings := clampSettings t } }
        (if clampSettings t = t then .ok else .clamped) := if_neg hfree
    rw [settingsOfPayload_eq] at answer
    split
    · rename_i hcode
      rw [if_pos hcode] at answer
      exact settingsPut_refused (st := .range) ready answer
    · rename_i hcode
      rw [if_neg hcode] at answer
      rw [settingsPut_started ready answer, clampSettings_sent, putCode]
      rfl

end Sys2Proof.Machine
end

section
/-! SUPPORT. SOURCE_GET (R126). -/

namespace Sys2Proof.Machine

section
variable {s : State} {id : Byte}

/-- The ten bytes a reply tells of a source before its place on the list. -/
def sourceBytes (s : State) (k : SourceId) : List Byte := sourceFields s.cfg k ++ qualifierBytes s k

theorem sourceGet_refused (ready : s.isReady) (h : 10 ≤ id.toNat) :
    exec (.sourceGet id) s = .next (s.withReply 3 (refusal 0x18 0x12)) :=
  congrArg Host.Outcome.next (request_refused ready 0x18 [id] (by simp) (sourceGetAnswer id) .range
    (by simp only [sourceGetAnswer, finOf_of_le h]))

theorem sourceGet_told (ready : s.isReady) {k : SourceId} (h : id.toNat = k.val) : exec (.sourceGet id) s =
    .next (s.withReply 3 (replyFrame 0x18 .ok (sourceBytes s k ++ listBytes s.board.wakes k))) :=
  congrArg Host.Outcome.next (request_told ready 0x18 [id] (by simp) (sourceGetAnswer id) _
    (by simp only [sourceGetAnswer, finOf_of_eq h, sourceBytes]))

end

theorem sourceBytes_length (s : State) (k : SourceId) : (sourceBytes s k).length = 10 := by
  have fields : (sourceFields s.cfg k).length = 8 := Nat.succ.inj (sourceBlock_length s.cfg k)
  have qualifier : (qualifierBytes s k).length = 2 := by unfold qualifierBytes; split <;> rfl
  rw [sourceBytes, List.length_append, fields, qualifier]

theorem listBytes_length (wakes : List SourceId) (k : SourceId) : (listBytes wakes k).length = 2 := by
  unfold listBytes
  split <;> rfl

/-- A wake line's bytes: its record and its qualifier. -/
theorem sourceBytes_line (s : State) (l : WakeLine) : sourceBytes s (lineId l)
    = lineFields (s.cfg.line l) ++ [byte1 (s.qual l).state.code, byte1 (s.qual l).tally] := by
  have hl : (lineId l).val < 8 := l.isLt
  rw [sourceBytes, sourceFields, qualifierBytes, dif_pos hl, dif_pos hl]
  rfl

end Sys2Proof.Machine
end

section
/-! SETTLEMENT. SOURCE_GET. -/

namespace Sys2Proof.Machine

/-- Settles O12, by the id. -/
theorem sourceGetTellsTheSource : Obligations.SourceGetTellsTheSource := by
  unfold Obligations.SourceGetTellsTheSource
  refine ⟨fun s id ready => ⟨sourceGet_refused ready, fun k hk => ⟨sourceBytes s k, ?_, ?_, ?_, ?_⟩⟩, fun a => rfl, rfl,
    rfl, rfl⟩
  · have len : (sourceBytes s k ++ listBytes s.board.wakes k).length + 1 = 13 := by
      rw [List.length_append, sourceBytes_length, listBytes_length]
    rw [sourceGet_told ready hk, replyFrame_ok, len]
    rfl
  · rintro l rfl
    rw [sourceBytes_line]
    rfl
  · rintro rfl
    rfl
  · rintro rfl
    rfl

end Sys2Proof.Machine
end

section
/-! SUPPORT. HOLD, PROCEED, CLEAR_FAULT, SAVE, WAKE, and the issue of an action. -/

namespace Sys2Proof.Machine

/-! ### HOLD and PROCEED (R26, R27) -/

/-- The flag is clear and nothing is held. -/
def Board.Unheld (b : Board) : Prop := b.stepHold = false ∧ b.held = false

/-- No move sets the flag, and none holds an action without it. -/
theorem Board.Unheld.move {e : Env} {b t : Board} (h : Move e b t) (hb : b.Unheld) : t.Unheld := by
  obtain ⟨flag, held⟩ := hb
  cases h with
  | switch h => rw [h.frame]; exact ⟨flag, held⟩
  | engine h =>
    cases h with
    | unlist issue on sub still =>
      refine ⟨flag, ?_⟩
      by_contra hon
      have := (still (by simpa using hon)).1
      rw [held] at this
      cases this
    | hold on => rw [flag] at on; cases on
    | complete _ r hr => simp only [Machine.complete, hr]; exact ⟨flag, rfl⟩
    | undone _ r hr => simp only [endReversing, hr]; exact ⟨flag, rfl⟩
    | drained _ r hr => simp only [endEmergency, hr]; split <;> exact ⟨flag, rfl⟩
    | reverse => exact ⟨flag, rfl⟩
    | drain => exact ⟨flag, rfl⟩
    | start => exact ⟨flag, rfl⟩
    | giveUp => exact ⟨flag, rfl⟩
    | _ => exact ⟨flag, held⟩

theorem unheld_finish (s0 : State) {s : State} (h : s.board.Unheld) : (finish s0 s).board.Unheld :=
  finishBoard_keep s0 (fun _ _ => Board.Unheld.move) (fun _ _ _ h => h) h

section
variable {s : State}

theorem hold_refused {field : Byte} (h : 1 < field.toNat) : holdAnswer field s = .refuse s .range := by
  unfold holdAnswer
  split
  · omega
  · omega
  · rfl

theorem proceed_started {a : Action} {rest : List Action} (held : s.board.held = true)
    (hissue : s.board.issue = a :: rest) : proceedAnswer s
      = .starts { s with board := issueAction s.env { s.board with issue := rest, held := false } a } .ok := by
  unfold proceedAnswer issueHead
  rw [if_pos held, hissue]

/-! ### CLEAR_FAULT (R50) -/

/-- A FAULTED node's line is at its off level already, and it has no charge. -/
theorem enter_off_of_faulted {cfg : WorkingConfig} {b : Board} {i : Slot} (h : (b.stateOf i).isFaulted = true)
    (lines : linesAgree cfg b) : enter cfg b i .off none = { b with nodes := (enter cfg b i .off none).nodes } := by
  obtain ⟨k, hk⟩ := isFaulted_iff.mp h
  have outs : outsFor cfg b.outs i .off = b.outs := by
    unfold outsFor
    split
    · rfl
    · rename_i r hr
      have := lines.1 i r hr
      rw [hk] at this
      rw [Vector.get_eq_getElem] at this
      change _ = Drive.driven (r.outLevel NodeState.off.level) at this
      rw [← this]
      exact Vector.set_getElem_self _
  have inUse : releasedBudget b.inUse (b.node i) .off = b.inUse :=
    if_neg fun hr => by
      have : (b.node i).state = .faulted k := hk
      rw [this] at hr
      cases hr.1
  unfold enter
  rw [outs, inUse]

theorem clearFault_refused (ready : s.isReady) {slot : Byte} {st : Status}
    (h : clearFaultAnswer slot s = .refuse s st) :
    exec (.clearFault slot) s = .next (s.withReply 3 (refusal 0x12 st.code)) :=
  congrArg Host.Outcome.next (request_refused ready 0x12 [slot] (by simp) (clearFaultAnswer slot) st h)

/-! ### SAVE (R204) -/

theorem save_refused (h : s.board.phase ≠ .idle ∨ s.store.saving.isSome = true) :
    saveAnswer s = .refuse s .busy := by
  unfold saveAnswer State.isSaving
  exact if_pos (by simpa using h)

theorem save_done (hp : s.board.phase = .idle) (hs : s.store.saving = none) : saveAnswer s
    = .done { s with store := ⟨.torn, some ⟨s.now, s.cfg⟩, s.store.unconfigured⟩ } .accepted := by
  unfold saveAnswer State.isSaving
  exact if_neg (by simp [hp, hs])

/-! ### WAKE (R125) -/

/-- On an IDLE engine an armed LINK arrival joins the list. -/
theorem arrive_link_of_idle {e : Env} {b : Board} (hp : b.phase = .idle) (ha : armed e b linkId = true) :
    arrive e b linkId = { b with wakes := joinList b.wakes linkId } := by
  have other : linkId ≠ buttonId := by decide
  unfold arrive takeIfArmed takeArrival
  rw [if_neg other, if_pos ha]
  split
  · rfl
  · rename_i r _
    have rest : reverses e.cfg b linkId r = false := by simp [reverses, hp]
    rw [rest]
    rfl

end

/-! ### The issue of an action (R14, R55, R56) -/

/-- From one board to another only one slot, its line, the stack, the reversibility mark and the budget in use may
differ, the last only where the slot was RAMPING. -/
structure SlotIssued (b : Board) (i : Slot) (o : Fin 16) (t : Board) : Prop where
  frame : t = { b with
    nodes := t.nodes, outs := t.outs, stack := t.stack, reversible := t.reversible, inUse := t.inUse }
  others : ∀ j, j ≠ i → t.node j = b.node j
  lines : ∀ o', o' ≠ o → t.outs.get o' = b.outs.get o'
  budget : b.stateOf i ≠ .ramping → t.inUse = b.inUse

section
variable {e : Env} {b t : Board} {i : Slot} {r : NodeRecord} {o : Fin 16}

theorem SlotIssued.refl (b : Board) (i : Slot) (o : Fin 16) : SlotIssued b i o b :=
  ⟨rfl, fun _ _ => rfl, fun _ _ => rfl, fun _ => rfl⟩

theorem slotIssued_enter (hr : e.cfg.node i = some r) (st : NodeState) (dl : Option Deadline) :
    SlotIssued b i r.output (enter e.cfg b i st dl) where
  frame := rfl
  others := onlySlot_enter e.cfg b i st dl
  lines o ho := by
    rw [enter_outs, outsFor_get_ne]
    intro q hq
    rw [hr] at hq
    cases hq
    exact Ne.symm ho
  budget hst := by rw [enter_inUse]; exact if_neg fun h => hst h.1

theorem SlotIssued.push (h : SlotIssued b i o t) (act : ActKind) : SlotIssued b i o (pushEntry t i act) where
  frame := by rw [h.frame]; rfl
  others := h.others
  lines := h.lines
  budget := h.budget

theorem SlotIssued.updNode (h : SlotIssued b i o t) (f : Node → Node) : SlotIssued b i o (t.updNode i f) where
  frame := by rw [h.frame]; rfl
  others j hj := (node_updNode_ne t i j f hj).trans (h.others j hj)
  lines := h.lines
  budget := h.budget

/-- The reversibility mark does not enter. -/
theorem SlotIssued.of_spoilt {reversible : Bool} (h : SlotIssued { b with reversible := reversible } i o t) :
    SlotIssued b i o t where
  frame := h.frame
  others := h.others
  lines := h.lines
  budget := h.budget

/-- What an on action or an undo-on does to a node PENDING at its off level, by kind (R55). -/
theorem issueOn_eq (hr : e.cfg.node i = some r) (act : ActKind) : issueOn e b i act = match r.body with
    | .rail .. => enter e.cfg b i .queued none
    | .signal => pushEntry (if r.settle = 0 then enter e.cfg b i .good none
        else enter e.cfg b i .settling (some ⟨.settle, e.now + r.settle⟩)) i act
    | .handshake .. => pushEntry (enter e.cfg b i .ramping (some ⟨.ramp, e.now + r.ramp⟩)) i act := by
  unfold issueOn toSettling toRamping
  simp only [hr] <;> rfl

/-- What an off action or an undo-off does to a node PENDING at its on level (R56). -/
theorem issueOff_eq (hr : e.cfg.node i = some r) (act : ActKind) : issueOff e b i act =
    pushEntry ((enter e.cfg b i (if r.body.isRail then .discharging else .stopping)
      (some ⟨.discharge, e.now + r.discharge⟩)).updNode i (fun n => { n with
        ending := if act == .off && (b.node i).levelBlocked then .blocked else .off })) i act := by
  unfold issueOff fall
  simp only [hr]

end

end Sys2Proof.Machine
end

section
/-! SETTLEMENT. Requests that act. -/

namespace Sys2Proof.Machine

/-- Settles O15. -/
theorem holdAndProceed : Obligations.HoldAndProceed := by
  unfold Obligations.HoldAndProceed
  intro s ready
  have one : holdAnswer 1 s = .done { s with board := { s.board with stepHold := true } } .ok := rfl
  have zero : holdAnswer 0 s = .starts { s with board := { s.board with stepHold := false, held := false } } .ok := rfl
  refine ⟨congrArg Host.Outcome.next (request_done ready 0x05 [1] (by simp) (holdAnswer 1) _ .ok one), fun field h => ?_,
    ⟨_, congrArg Host.Outcome.next (request_started ready 0x05 [0] (by simp) (holdAnswer 0) _ .ok zero), rfl, ?_, ?_, rfl⟩,
    fun h => ?_, fun a rest held hissue => ?_⟩
  · exact congrArg Host.Outcome.next (request_refused ready 0x05 [field] (by simp) (holdAnswer field) .range (hold_refused h))
  · exact (unheld_finish s ⟨rfl, rfl⟩).1
  · exact (unheld_finish s ⟨rfl, rfl⟩).2
  · exact congrArg Host.Outcome.next (request_refused ready 0x06 [] (by simp) proceedAnswer .state (if_neg (by simp [h])))
  · exact congrArg Host.Outcome.next
      (request_started ready 0x06 [] (by simp) proceedAnswer _ .ok (proceed_started held hissue))

/-- Settles O17. -/
theorem clearFaultReturnsANodeToOff : Obligations.ClearFaultReturnsANodeToOff := by
  unfold Obligations.ClearFaultReturnsANodeToOff
  refine fun s slot ready => ⟨fun h => clearFault_refused (st := .range) ready ?_, fun i hi =>
    ⟨fun h => clearFault_refused (st := .busy) ready ?_, fun hp h => clearFault_refused (st := .state) ready ?_,
      fun hp h lines => ?_⟩⟩
  · simp only [clearFaultAnswer, finOf_of_le h]
  · simp only [clearFaultAnswer, finOf_of_eq hi, h, if_true]
  · simp only [clearFaultAnswer, finOf_of_eq hi, hp, h, Bool.false_eq_true, if_false]
  · have answer : clearFaultAnswer slot s = .done { s with
        board := { s.board with nodes := (enter s.cfg s.board i .off none).nodes } } .ok := by
      rw [← enter_off_of_faulted h lines]
      simp only [clearFaultAnswer, finOf_of_eq hi, hp, h, Bool.false_eq_true, if_false, if_true]
    refine ⟨_, congrArg Host.Outcome.next
      (request_done ready 0x12 [slot] (by simp) (clearFaultAnswer slot) _ .ok answer), onlySlot_enter s.cfg s.board i .off none, ?_⟩
    have self : (enter s.cfg s.board i .off none).nodes.get i = (s.board.node i).withState .off none :=
      node_enter_self s.cfg s.board i .off none
    have count : badRunsOn (s.board.node i).state .off = false := badRunsOn_of_isDown rfl
    rw [self]
    exact ⟨rfl, rfl, rfl, rfl, rfl, by simp [Node.withState, count], rfl, rfl⟩

/-- Settles O18. -/
theorem saveTakesAndWritesTheConfiguration : Obligations.SaveTakesAndWritesTheConfiguration := by
  unfold Obligations.SaveTakesAndWritesTheConfiguration
  refine fun s => ⟨fun ready h => ?_, fun ready hp hs => ?_, fun ok => ⟨fun hs => ?_, fun job hs hstart => ?_⟩⟩
  · exact congrArg Host.Outcome.next (request_refused ready 0x1E [] (by simp) saveAnswer .busy (save_refused h))
  · exact congrArg Host.Outcome.next (request_done ready 0x1E [] (by simp) saveAnswer _ .accepted (save_done hp hs))
  · show Host.Outcome.next (afterSaveEnd ok s) = _
    unfold afterSaveEnd
    rw [hs]
  · show Host.Outcome.next (afterSaveEnd ok s) = _
    unfold afterSaveEnd
    simp only [hs]
    rw [if_pos hstart]
    rfl

/-- Settles O19. -/
theorem wakeIsALinkArrival : Obligations.WakeIsALinkArrival := by
  unfold Obligations.WakeIsALinkArrival
  intro s ready
  show Host.Outcome.next (s.request 0x03 [] wakeAnswer) = _
  split
  · rename_i hp
    exact congrArg Host.Outcome.next (request_refused ready 0x03 [] (by simp) wakeAnswer .busy (if_pos hp))
  · rename_i hp
    rw [ne_eq, Decidable.not_not] at hp
    rw [show (9 : SourceId) = linkId from rfl]
    split
    · rename_i h
      have refused : wakeAnswer s = .refuse s .state := by
        unfold wakeAnswer
        rw [if_neg (by simp [hp]), if_pos (by simpa using h)]
      exact congrArg Host.Outcome.next (request_refused ready 0x03 [] (by simp) wakeAnswer .state refused)
    · rename_i h
      rw [not_or, Bool.not_eq_false] at h
      obtain ⟨working, link⟩ := h
      have accepted : wakeAnswer s
          = .starts { s with board := { s.board with wakes := joinList s.board.wakes linkId } } .accepted := by
        unfold wakeAnswer
        rw [if_neg (by simp [hp]), if_neg (by simpa [working] using link), arrive_link_of_idle hp link]
      exact congrArg Host.Outcome.next (request_started ready 0x03 [] (by simp) wakeAnswer _ .accepted accepted)

end Sys2Proof.Machine
end

section
/-! SUPPORT. What an issued action leaves: one lemma for on actions, one for off actions. -/

namespace Sys2Proof.Machine

section
variable {e : Env} {b t : Board} {i : Slot} {r : NodeRecord}

/-- An on action or an undo-on moves its slot alone. -/
theorem slotIssued_issueOn (hr : e.cfg.node i = some r) (act : ActKind) :
    SlotIssued b i r.output (issueOn e b i act) := by
  rw [issueOn_eq hr]
  cases r.body with
  | rail => exact slotIssued_enter hr _ _
  | signal =>
    dsimp only
    split
    · exact (slotIssued_enter hr _ _).push act
    · exact (slotIssued_enter hr _ _).push act
  | handshake => exact (slotIssued_enter hr _ _).push act

/-- An off action or an undo-off moves its slot alone. -/
theorem slotIssued_issueOff (hr : e.cfg.node i = some r) (act : ActKind) :
    SlotIssued b i r.output (issueOff e b i act) := by
  rw [issueOff_eq hr]
  exact ((slotIssued_enter hr _ _).updNode _).push act

/-- What an on action leaves in its slot, by kind (R55). -/
def OnIssued (e : Env) (b t : Board) (i : Slot) (act : ActKind) (r : NodeRecord) : Prop :=
  match r.body with
  | .rail .. => (t.node i).state = .queued ∧ t.stack = b.stack
  | .signal => (t.node i).state = (if r.settle = 0 then .good else .settling)
      ∧ (r.settle ≠ 0 → (t.node i).deadline = some ⟨.settle, e.now + r.settle⟩)
      ∧ t.outs.get r.output = .driven r.polarity ∧ t.stack = ⟨i, act⟩ :: b.stack.filter (fun a => a.slot ≠ i)
  | .handshake .. => (t.node i).state = .ramping ∧ (t.node i).deadline = some ⟨.ramp, e.now + r.ramp⟩
      ∧ t.outs.get r.output = .driven r.polarity ∧ t.stack = ⟨i, act⟩ :: b.stack.filter (fun a => a.slot ≠ i)

theorem onIssued_issueOn (hr : e.cfg.node i = some r) (act : ActKind) : OnIssued e b (issueOn e b i act) i act r := by
  have node (st : NodeState) (dl : Option Deadline) :
      (pushEntry (enter e.cfg b i st dl) i act).node i = (b.node i).withState st dl := node_enter_self e.cfg b i st dl
  have line (st : NodeState) (dl : Option Deadline) (h : st.level = true) :
      (pushEntry (enter e.cfg b i st dl) i act).outs.get r.output = .driven r.polarity := by
    have := outsFor_get_self hr b.outs st
    rw [h] at this
    exact this
  rw [issueOn_eq hr, OnIssued]
  cases r.body with
  | rail => exact ⟨congrArg Node.state (node_enter_self e.cfg b i .queued none), rfl⟩
  | signal =>
    dsimp only
    split
    · exact ⟨by rw [node]; rfl, fun h => absurd ‹_› h, line _ _ rfl, rfl⟩
    · exact ⟨by rw [node]; rfl, fun _ => by rw [node]; rfl, line _ _ rfl, rfl⟩
  | handshake => exact ⟨by rw [node]; rfl, by rw [node]; rfl, line _ _ rfl, rfl⟩

theorem node_pushEntry (b : Board) (i j : Slot) (act : ActKind) : (pushEntry b i act).node j = b.node j := rfl

/-- What an off action leaves in its slot (R56). -/
def OffIssued (e : Env) (b t : Board) (i : Slot) (act : ActKind) (r : NodeRecord) : Prop :=
  (t.node i).state = (if r.body.isRail then .discharging else .stopping)
    ∧ (t.node i).deadline = some ⟨.discharge, e.now + r.discharge⟩
    ∧ (t.node i).ending = (if act = .off ∧ (b.node i).levelBlocked = true then .blocked else .off)
    ∧ t.outs.get r.output = .driven (flipLevel r.polarity)
    ∧ t.stack = ⟨i, act⟩ :: b.stack.filter (fun a => a.slot ≠ i)

theorem offIssued_issueOff (hr : e.cfg.node i = some r) (act : ActKind) :
    OffIssued e b (issueOff e b i act) i act r := by
  have level : (if r.body.isRail then NodeState.discharging else .stopping).level = false := by split <;> rfl
  have line := outsFor_get_self hr b.outs (if r.body.isRail then NodeState.discharging else .stopping)
  rw [level] at line
  have node : (issueOff e b i act).node i = { (b.node i).withState (if r.body.isRail then .discharging else .stopping)
      (some ⟨.discharge, e.now + r.discharge⟩) with
        ending := if act == .off && (b.node i).levelBlocked then .blocked else .off } := by
    rw [issueOff_eq hr, node_pushEntry, node_updNode_self, node_enter_self]
  refine ⟨by rw [node]; rfl, by rw [node]; rfl, ?_, ?_, ?_⟩
  · rw [node]
    refine if_congr ?_ rfl rfl
    rw [Bool.and_eq_true, beq_iff_eq]
  · rw [issueOff_eq hr]
    exact line
  · rw [issueOff_eq hr]
    rfl

theorem issueAction_on {act : ActKind} (h : act = .on ∨ act = .undoOn) :
    issueAction e b ⟨i, act⟩ = if b.stateOf i = .pending false then issueOn e b i act else b := by
  rcases h with rfl | rfl <;> rfl

/-- The reversibility mark after an off action (R131). -/
def Board.spoilt (e : Env) (b : Board) (i : Slot) (act : ActKind) : Board :=
  { b with reversible := b.reversible && !(act == .off && e.cfg.irreversible i) }

theorem issueAction_off {act : ActKind} (h : act = .off ∨ act = .undoOff) : issueAction e b ⟨i, act⟩ =
    if b.stateOf i = .pending true then issueOff e (b.spoilt e i act) i act else b.spoilt e i act := by
  rcases h with rfl | rfl <;> rfl

theorem irreversible_of_node (hr : e.cfg.node i = some r) : e.cfg.irreversible i = r.irreversible := by
  unfold WorkingConfig.irreversible
  rw [hr]

/-- An action issued on or off. -/
theorem ActKind.on_or_off (act : ActKind) : (act = .on ∨ act = .undoOn) ∨ (act = .off ∨ act = .undoOff) := by
  cases act <;> simp

theorem slotIssued_issueAction (hr : e.cfg.node i = some r) (act : ActKind) :
    SlotIssued b i r.output (issueAction e b ⟨i, act⟩) := by
  rcases act.on_or_off with h | h
  · rw [issueAction_on h]
    split
    · exact slotIssued_issueOn hr act
    · exact .refl b i _
  · rw [issueAction_off h]
    split
    · exact (slotIssued_issueOff hr act).of_spoilt
    · exact (SlotIssued.refl (b.spoilt e i act) i _).of_spoilt

theorem reversible_issueAction (hr : e.cfg.node i = some r) (act : ActKind) :
    (issueAction e b ⟨i, act⟩).reversible = (b.reversible && !(act == .off && r.irreversible)) := by
  have on {c : Board} : (issueOn e c i act).reversible = c.reversible := by
    rw [issueOn_eq hr]
    cases r.body with
    | rail => rfl
    | signal => dsimp only; split <;> rfl
    | handshake => rfl
  have off {c : Board} : (issueOff e c i act).reversible = c.reversible := by rw [issueOff_eq hr]; rfl
  rcases act.on_or_off with h | h
  · have noOff : (act == .off) = false := by rcases h with rfl | rfl <;> rfl
    rw [issueAction_on h, noOff, Bool.false_and, Bool.not_false, Bool.and_true]
    split
    · exact on
    · rfl
  · have spoilt : (b.spoilt e i act).reversible = (b.reversible && !(act == .off && r.irreversible)) := by
      rw [← irreversible_of_node hr]; rfl
    rw [issueAction_off h]
    split
    · exact off.trans spoilt
    · exact spoilt

end

end Sys2Proof.Machine
end

section
/-! SETTLEMENT. Issued actions. -/

namespace Sys2Proof.Machine

/-- Settles O16: the frame of every action, then on and off actions. -/
theorem issuedActionsMoveTheirNodes : Obligations.IssuedActionsMoveTheirNodes := by
  unfold Obligations.IssuedActionsMoveTheirNodes
  intro e b i act r hr
  have issued : SlotIssued b i r.output (issueAction e b ⟨i, act⟩) := slotIssued_issueAction hr act
  refine ⟨_, _, _, _, _, issued.frame, issued.others, issued.lines, reversible_issueAction hr act, issued.budget,
    fun h hst => ?_, fun h hst => ?_⟩
  · rw [issueAction_on h, if_pos hst]
    exact onIssued_issueOn hr act
  · rw [issueAction_off h, if_pos hst]
    exact offIssued_issueOff (b := b.spoilt e i act) hr act

end Sys2Proof.Machine
end

section
/-! SUPPORT. The start of a transition: the target levels as a greatest fixed point, the plan of a slot, and what it
leaves of each slot. -/

namespace Sys2Proof.Machine

/-- As many rounds of the correction as there are slots reach a fixed point. -/
theorem correctTargets_closed (cfg : WorkingConfig) (n : Nat) (l : List Slot) (h : l.length ≤ n) :
    cfg.correctTargets (cfg.correctTargets^[n] l) = cfg.correctTargets^[n] l := by
  induction n generalizing l with
  | zero =>
    obtain rfl := List.length_eq_zero_iff.mp (Nat.le_zero.mp h)
    rfl
  | succ n ih =>
    by_cases hl : cfg.correctTargets l = l
    · rw [Function.iterate_fixed hl, hl]
    · refine ih _ ?_
      have : (cfg.correctTargets l).length < l.length :=
        lt_of_le_of_ne (List.length_filter_le _ _) fun hc => hl (List.filter_sublist.eq_of_length hc)
      omega

/-- The correction removes no set of slots that is closed under prerequisites. -/
theorem mem_correctTargets_iterate (cfg : WorkingConfig) (S : Slot → Prop) (closed : ∀ i, S i → ∀ q ∈ cfg.prereqs i, S q)
    (n : Nat) (l : List Slot) (h : ∀ i, S i → i ∈ l) : ∀ i, S i → i ∈ cfg.correctTargets^[n] l := by
  induction n generalizing l with
  | zero => exact h
  | succ n ih =>
    refine ih _ fun i hi => List.mem_filter.mpr ⟨h i hi, ?_⟩
    simpa using fun q hq => h q (closed i hi q hq)

theorem required_of_mem_correctTargets (cfg : WorkingConfig) (n : Nat) (l : List Slot) :
    ∀ i ∈ cfg.correctTargets^[n] l, i ∈ l := by
  induction n generalizing l with
  | zero => exact fun _ h => h
  | succ n ih => exact fun i hi => List.mem_of_mem_filter (ih _ i hi)

/-- The target levels: on where required on and every prerequisite has target on (R10). -/
theorem mem_targetsOn (cfg : WorkingConfig) (p : Platform) (i : Slot) :
    i ∈ cfg.targetsOn p ↔ cfg.required p i = true ∧ ∀ q ∈ cfg.prereqs i, q ∈ cfg.targetsOn p := by
  have down : ∀ j, j ∈ cfg.targetsOn p → cfg.required p j = true ∧ ∀ q ∈ cfg.prereqs j, q ∈ cfg.targetsOn p := by
    intro j hj
    have fixed := correctTargets_closed cfg 20 (slots.filter (cfg.required p)) (List.length_filter_le _ slots)
    refine ⟨(List.mem_filter.mp (required_of_mem_correctTargets cfg 20 _ j hj)).2, ?_⟩
    unfold WorkingConfig.targetsOn at hj ⊢
    rw [← fixed] at hj
    simpa using (List.mem_filter.mp hj).2
  refine ⟨down i, fun h => ?_⟩
  refine mem_correctTargets_iterate cfg
    (fun j => cfg.required p j = true ∧ ∀ q ∈ cfg.prereqs j, q ∈ cfg.targetsOn p)
    (fun j hj q hq => down q (hj.2 q hq)) 20 _ (fun j hj => ?_) i h
  exact List.mem_filter.mpr ⟨mem_slots j, hj.1⟩

/-! ### The slots of a start -/

/-- The node state a start plans with (R9). -/
def plannedState (b : Board) (kind : Kind) (i : Slot) : NodeState :=
  if kind.isResume && (b.stateOf i).isFaulted then .off else b.stateOf i

theorem stateOf_returned (e : Env) (b : Board) (kind : Kind) (i : Slot) :
    (returned e b kind).stateOf i = plannedState b kind i := by
  unfold returned plannedState
  cases kind.isResume with
  | false => simp
  | true =>
    have turn := forSlots_node (returnFaulted e.cfg)
      (fun _ n => if n.state.isFaulted then n.withState .off none else n)
      (fun c j => by
        unfold returnFaulted Board.stateOf
        split
        · exact node_enter_self ..
        · rfl)
      (fun c j => by
        unfold returnFaulted
        split
        · exact onlySlot_enter _ _ _ _ _
        · exact OnlySlot.refl j c) b i
    simp only [if_pos, Bool.true_and, Board.stateOf, turn]
    split <;> rfl

/-- A member that is OFF or GOOD takes PENDING (R12). -/
def Node.waiting (n : Node) : Node :=
  if n.member.isNone then n
  else if n.state = .off then n.withState (.pending false) none
  else if n.state = .good then n.withState (.pending true) none
  else n

theorem node_takePending (cfg : WorkingConfig) (b : Board) (i : Slot) : (takePending cfg b i).node i = (b.node i).waiting := by
  unfold takePending
  split
  · rename_i hm hs; simp [Node.waiting, hm, show (b.node i).state = .off from hs]
  · rename_i hm hs; simp [Node.waiting, hm, show (b.node i).state = .good from hs]
  · rename_i hoff hgood
    cases hm : (b.node i).member with
    | none => simp [Node.waiting, hm]
    | some on =>
      have h1 : (b.node i).state ≠ .off := fun h => hoff on hm h
      have h2 : (b.node i).state ≠ .good := fun h => hgood on hm h
      simp [Node.waiting, h1, h2]

theorem onlySlot_takePending (cfg : WorkingConfig) (b : Board) (i : Slot) : OnlySlot i b (takePending cfg b i) := by
  unfold takePending
  split
  · exact onlySlot_enter _ _ _ _ _
  · exact onlySlot_enter _ _ _ _ _
  · exact OnlySlot.refl i b

theorem node_plannedBoard (e : Env) (b : Board) (kind : Kind) (target : Platform) (i : Slot) :
    (plannedBoard e b kind target).node i = planned e b kind target i :=
  node_ofFn (returned e b kind) (fun j => planned e b kind target j) i

theorem node_startFields (e : Env) (b : Board) (kind : Kind) (target : Platform) (origin : Origin)
    (wake : Option SourceId) (dwell : Option Nat) (empty : Bool) (i : Slot) :
    (startFields e b kind target origin wake dwell empty).node i = b.node i := rfl

/-- A slot after a start: planned, and PENDING where it is a member that is OFF or GOOD. -/
theorem node_start (e : Env) (b : Board) (kind : Kind) (target : Platform) (origin : Origin) (wake : Option SourceId)
    (dwell : Option Nat) (i : Slot) :
    (start e b kind target origin wake dwell).node i = (planned e b kind target i).waiting := by
  rw [start_eq, forSlots_node (takePending e.cfg) (fun _ => Node.waiting) (node_takePending e.cfg)
    (onlySlot_takePending e.cfg), node_startFields, node_plannedBoard]

/-- What waiting leaves of the plan, and the state it gives. -/
theorem waiting_fields (n : Node) : n.waiting.retriesLeft = n.retriesLeft ∧ n.waiting.startLevel = n.startLevel
    ∧ n.waiting.target = n.target ∧ n.waiting.levelBlocked = n.levelBlocked ∧ n.waiting.member = n.member
    ∧ n.waiting.state = if n.member.isNone then n.state else if n.state = .off then .pending false
      else if n.state = .good then .pending true else n.state := by
  unfold Node.waiting
  split_ifs <;> exact ⟨rfl, rfl, rfl, rfl, rfl, rfl⟩

end Sys2Proof.Machine
end

section
/-! SETTLEMENT. The start of a transition. -/

namespace Sys2Proof.Machine

theorem onlySlots_start (e : Env) (b : Board) (kind : Kind) (target : Platform) (origin : Origin)
    (wake : Option SourceId) (dwell : Option Nat) :
    OnlySlots (startFields e (plannedBoard e b kind target) kind target origin wake dwell (emptyPlan e b kind target))
      (start e b kind target origin wake dwell) := by
  rw [start_eq]
  exact forSlots_onlySlots _ (onlySlots_takePending e.cfg) _

/-- Settles O21: a start is its plan, its fields and the members that take PENDING. -/
theorem startPlansTheTransition : Obligations.StartPlansTheTransition := by
  unfold Obligations.StartPlansTheTransition
  refine ⟨mem_targetsOn, ?_⟩
  intro e b kind target origin wake dwell
  have frame := onlySlots_start e b kind target origin wake dwell
  have node := node_start e b kind target origin wake dwell
  generalize start e b kind target origin wake dwell = t at frame node ⊢
  have same := onlySlots_plannedBoard e b kind target
  have hp : (plannedBoard e b kind target).platform = b.platform := same.keeps Board.platform rfl
  have ha : (plannedBoard e b kind target).acRestore = b.acRestore := same.keeps Board.acRestore rfl
  have hw : (plannedBoard e b kind target).watchdog = b.watchdog := same.keeps Board.watchdog rfl
  have hd : (plannedBoard e b kind target).dwell = b.dwell := same.keeps Board.dwell rfl
  have empty : emptyPlan e b kind target = true ↔ ∀ i, (t.node i).member = none := by
    rw [emptyPlan, slots_all_iff]
    refine forall_congr' fun i => ?_
    rw [node i, (waiting_fields _).2.2.2.2.1, Option.isNone_iff_eq_none]
  generalize plannedBoard e b kind target = p at frame same hp ha hw hd
  generalize emptyPlan e b kind target = nothing at frame empty
  dsimp only
  refine ⟨?_, frame.keeps Board.startedAt rfl, frame.keeps Board.phase rfl, (frame.keeps Board.platform rfl).trans hp,
    frame.keeps Board.issue rfl, frame.keeps Board.stack rfl, frame.keeps Board.held rfl,
    (frame.keeps Board.stepHold rfl).trans (same.keeps Board.stepHold rfl), frame.keeps Board.requestedDwell rfl,
    ?_, ?_, ?_, ?_, (frame.keeps Board.wakes rfl).trans (same.keeps Board.wakes rfl),
    (frame.keeps Board.lockout rfl).trans (same.keeps Board.lockout rfl),
    (frame.keeps Board.counter rfl).trans (same.keeps Board.counter rfl),
    (frame.keeps Board.notices rfl).trans (same.keeps Board.notices rfl),
    (frame.keeps Board.last rfl).trans (same.keeps Board.last rfl),
    (frame.keeps Board.recovery rfl).trans (same.keeps Board.recovery rfl),
    (frame.keeps Board.pointer rfl).trans (same.keeps Board.pointer rfl), ?_, ?_⟩
  · refine (frame.keeps Board.record rfl).trans ?_
    rw [startFields, hp]
  · refine (frame.keeps Board.reversible rfl).trans ?_
    cases kind <;> cases origin <;> rfl
  · refine (frame.keeps Board.watchdog rfl).trans ?_
    rw [startFields, hp, hw]
  · refine (frame.keeps Board.dwell rfl).trans ?_
    rw [startFields, hp, hd]
  · refine (frame.keeps Board.acRestore rfl).trans ?_
    rw [startFields, ha]
  · exact (iff_of_eq (congrArg (· = true) (frame.keeps Board.emptyChange rfl))).trans empty
  · intro i r hr
    have before := stateOf_returned e b kind i
    have resumes : (decide (kind = .up ∨ kind = .dozeOut)) = kind.isResume := by cases kind <;> rfl
    obtain ⟨retries, startLevel, goal, blocked, member, state⟩ := waiting_fields (planned e b kind target i)
    rw [← node i] at retries startLevel goal blocked member state
    rw [resumes]
    unfold plannedState at before
    refine ⟨retries.trans ?_, startLevel.trans (congrArg NodeState.level before), goal.trans ?_,
      blocked.trans ?_, member.trans ?_, state.trans ?_⟩
    · simp only [planned, Node.plan, hr]
    · simp only [planned, Node.plan, List.contains_eq_mem]
    · simp only [planned, Node.plan, WorkingConfig.required, hr, List.contains_eq_mem]
    · rw [← before]
      simp only [planned, Node.plan, List.contains_eq_mem, Board.stateOf]
      congr
    · rw [← before]
      simp only [planned, Node.plan, List.contains_eq_mem, Board.stateOf]
      congr

end Sys2Proof.Machine
end

section
/-! SUPPORT. The changes of LOWERING and RAISING, one at a time, in the order they are tried. -/

namespace Sys2Proof.Machine

variable {e : Env} {b : Board}

/-! ### One change at a time -/

/-- A change that is made under a condition, else the next. -/
theorem orElse_of_ite {c : Prop} [Decidable c] (x : Board) (y : Option Board) :
    ((if c then some x else none) <|> y) = if c then some x else y := by split <;> rfl

theorem orElse_of_none {x : Option Board} (h : x = none) (y : Option Board) : (x <|> y) = y := by rw [h]; rfl

theorem orElse_of_some {x : Option Board} {t : Board} (h : x = some t) (y : Option Board) : (x <|> y) = some t := by
  rw [h]; rfl

theorem levelStep_eq (e : Env) (b : Board) : levelStep e b =
    if levelBlockedOff b ≠ [] then some (blockLevels e b (levelBlockedOff b)) else none := by
  unfold levelStep
  split
  · rename_i hl; rw [hl]; rfl
  · rename_i hl; exact (if_pos (fun h => hl h)).symm

theorem eligibleStep_eq (b : Board) (act : ActKind) (test : Slot → Bool) : eligibleStep b act test =
    if slots.filter (fun i => test i && !listed b.issue i) ≠ []
    then some (enlist b act (slots.filter (fun i => test i && !listed b.issue i))) else none := by
  unfold eligibleStep
  split
  · rename_i hl; rw [hl]; rfl
  · rename_i hl; exact (if_pos (fun h => hl h)).symm

theorem blockStep_of_nil (h : toBlock e.cfg b = []) : blockStep e b = none := by
  unfold blockStep; rw [h]

theorem blockStep_of_cons {i : Slot} {l : List Slot} (h : toBlock e.cfg b = i :: l) :
    blockStep e b = some (takeFault e b i .blocked false) := by
  unfold blockStep; rw [h]

theorem blockTestStep_of_not (h : b.blockTest = false) : blockTestStep e b = none := by
  simp [blockTestStep, h]

theorem blockTestStep_of_nil (h : b.blockTest = true) (hl : toBlock e.cfg b = []) :
    blockTestStep e b = some { b with blockTest := false } := by
  simp [blockTestStep, h, blockStep_of_nil hl]

theorem blockTestStep_of_cons {i : Slot} {l : List Slot} (h : b.blockTest = true) (hl : toBlock e.cfg b = i :: l) :
    blockTestStep e b = some (takeFault e b i .blocked false) := by
  simp [blockTestStep, h, blockStep_of_cons hl]

/-! ### The slots the engine looks for -/

theorem levelBlockedOff_eq (b : Board) :
    levelBlockedOff b = slots.filter (fun i => (b.node i).levelBlocked = true ∧ b.stateOf i = .off) := by
  unfold levelBlockedOff
  refine List.filter_congr fun i _ => ?_
  rw [Bool.eq_iff_iff]
  simp

theorem offEligible_eq (e : Env) (b : Board) : slots.filter (fun i => offEligible e b i && !listed b.issue i) =
    slots.filter (fun i => (b.node i).member = some false ∧ b.stateOf i = .pending true
      ∧ (∀ d ∈ e.cfg.dependents i, (b.stateOf d).isDown = true) ∧ b.issue.any (fun a => a.slot == i) = false) := by
  refine List.filter_congr fun i _ => ?_
  rw [Bool.eq_iff_iff, decide_eq_true_eq, ← dependentsDown_iff]
  simp [offEligible, listed, and_assoc]

theorem retried_eq (e : Env) (b : Board) :
    slots.filter (fun i => pendingOn b i && listed b.stack i && b.prereqsGood e.cfg i) =
      slots.filter (fun i => ((b.node i).member = some true ∧ b.stateOf i = .pending false
        ∧ ∀ p ∈ e.cfg.prereqs i, (b.stateOf p).isGood = true) ∧ b.stack.any (fun a => a.slot == i) = true) := by
  refine List.filter_congr fun i _ => ?_
  rw [Bool.eq_iff_iff, decide_eq_true_eq, ← prereqsGood_iff]
  simp only [pendingOn, listed, Bool.and_eq_true, beq_iff_eq]
  tauto

theorem onEligible_eq (e : Env) (b : Board) : slots.filter (fun i => onEligible e b i && !listed b.issue i) =
    slots.filter (fun i => ((b.node i).member = some true ∧ b.stateOf i = .pending false
      ∧ ∀ p ∈ e.cfg.prereqs i, (b.stateOf p).isGood = true) ∧ b.stack.any (fun a => a.slot == i) = false
      ∧ b.issue.any (fun a => a.slot == i) = false) := by
  refine List.filter_congr fun i _ => ?_
  rw [Bool.eq_iff_iff, decide_eq_true_eq, ← prereqsGood_iff]
  simp only [onEligible, pendingOn, listed, Bool.and_eq_true, beq_iff_eq, Bool.not_eq_true']
  tauto

/-! ### The end of LOWERING and RAISING -/

theorem isFalling_eq_false_iff (st : NodeState) : st.isFalling = false ↔ st ≠ .stopping ∧ st ≠ .discharging := by
  cases st <;> simp [NodeState.isFalling]

theorem isFalling_iff (st : NodeState) : st.isFalling = true ↔ st = .stopping ∨ st = .discharging := by
  cases st <;> simp [NodeState.isFalling]

theorem resolved_iff (n : Node) : resolved n = true ↔
    (n.member = some true → n.state = .good ∨ n.state.isFaulted = true) ∧ (n.member = some false → n.state.isDown = true) := by
  unfold resolved
  rcases n.member with _ | _ | _ <;> simp

/-- The end of LOWERING. -/
theorem loweringEnds_iff (b : Board) : loweringOver b = true ↔ b.emptyChange = true
    ∨ ∀ i, ((b.node i).member = some false → (b.stateOf i).isDown = true)
      ∧ b.stateOf i ≠ .stopping ∧ b.stateOf i ≠ .discharging := by
  simp only [loweringOver_iff, isFalling_eq_false_iff]

/-- The end of RAISING with a change set that was not empty. -/
theorem raisingEnds_iff (e : Env) (b : Board) (h : b.emptyChange = false) : raisingOver e b = true ↔
    ∀ i, ((b.node i).member = some true → b.stateOf i = .good ∨ (b.stateOf i).isFaulted = true)
      ∧ ((b.node i).member = some false → (b.stateOf i).isDown = true)
      ∧ ((b.node i).member ≠ none → (b.stateOf i).isFaulted = true → e.cfg.critical i = false)
      ∧ b.stateOf i ≠ .stopping ∧ b.stateOf i ≠ .discharging ∧ b.stateOf i ≠ .queued := by
  simp only [raisingOver_iff, resolved_iff, isFalling_eq_false_iff, h, Bool.false_eq_true, false_or, and_assoc]
  rfl

theorem blockFalling_eq : Node.blockFalling = fun n =>
    if n.levelBlocked = true ∧ (n.state = .stopping ∨ n.state = .discharging) then { n with ending := .blocked } else n := by
  funext n
  unfold Node.blockFalling
  exact if_congr (by rw [Bool.and_eq_true, isFalling_iff]) rfl rfl

/-- The end of RAISING. -/
theorem raisingEnd_eq (e : Env) (b : Board) : (if raisingOver e b then some (endRaising e b) else none) =
    if b.emptyChange = true then some (complete e { b with nodes := b.nodes.map (fun n =>
      if n.levelBlocked = true ∧ (n.state = .stopping ∨ n.state = .discharging) then { n with ending := .blocked } else n) })
    else if ∀ i, ((b.node i).member = some true → b.stateOf i = .good ∨ (b.stateOf i).isFaulted = true)
      ∧ ((b.node i).member = some false → (b.stateOf i).isDown = true)
      ∧ ((b.node i).member ≠ none → (b.stateOf i).isFaulted = true → e.cfg.critical i = false)
      ∧ b.stateOf i ≠ .stopping ∧ b.stateOf i ≠ .discharging ∧ b.stateOf i ≠ .queued then some (complete e b)
    else none := by
  unfold endRaising
  by_cases empty : b.emptyChange = true
  · rw [if_pos ((raisingOver_iff e b).mpr (.inl empty)), if_pos empty, if_pos empty, blockFalling_eq]
  · rw [if_neg empty, if_neg empty]
    exact if_congr (raisingEnds_iff e b (Bool.eq_false_iff.mpr empty)) rfl rfl

/-! ### Blocking down the graph -/

theorem mem_blockRound (cfg : WorkingConfig) (b : Board) (l : List Slot) (i : Slot) : i ∈ blockRound cfg b l ↔
    (b.node i).member = some true ∧ b.stateOf i = .pending false ∧ ∃ p ∈ cfg.prereqs i,
      (b.stateOf p).isFaulted = true ∨ (b.stateOf p = .off ∧ (b.node p).member ≠ some true) ∨ p ∈ l := by
  simp [blockRound, mem_slots, pendingOn, prereqBlocks, and_assoc, or_assoc]

theorem blockRound_mono (cfg : WorkingConfig) (b : Board) {l m : List Slot} (h : ∀ i ∈ l, i ∈ m) :
    (blockRound cfg b l).Sublist (blockRound cfg b m) := by
  refine List.sublist_of_subperm_of_pairwise (r := (· < ·)) ?_ (slots_sorted.filter _) (slots_sorted.filter _)
  refine List.subperm_of_subset (slots_nodup.filter _) fun i hi => ?_
  rw [mem_blockRound] at hi ⊢
  obtain ⟨hm, hs, p, hp, hc⟩ := hi
  exact ⟨hm, hs, p, hp, hc.imp_right (Or.imp_right (h p))⟩

theorem blockRound_grows (cfg : WorkingConfig) (b : Board) (n : Nat) :
    ((blockRound cfg b)^[n] []).Sublist ((blockRound cfg b)^[n + 1] []) := by
  induction n with
  | zero => exact List.nil_sublist _
  | succ n ih =>
    rw [Function.iterate_succ_apply' _ (n + 1), Function.iterate_succ_apply' _ n]
    rw [Function.iterate_succ_apply' _ n] at ih
    exact blockRound_mono cfg b ih.subset

/-- Each round blocks another slot or is the last. -/
theorem blockRound_stops_or_grows (cfg : WorkingConfig) (b : Board) (n : Nat) :
    (blockRound cfg b)^[n + 1] [] = (blockRound cfg b)^[n] [] ∨ n + 1 ≤ ((blockRound cfg b)^[n + 1] []).length := by
  have grows (n : Nat) (h : (blockRound cfg b)^[n + 1] [] ≠ (blockRound cfg b)^[n] []) :
      ((blockRound cfg b)^[n] []).length < ((blockRound cfg b)^[n + 1] []).length :=
    lt_of_le_of_ne (blockRound_grows cfg b n).length_le fun hc => h ((blockRound_grows cfg b n).eq_of_length hc).symm
  by_cases same : (blockRound cfg b)^[n + 1] [] = (blockRound cfg b)^[n] []
  · exact .inl same
  · right
    have longer := grows n same
    induction n with
    | zero => omega
    | succ n ih =>
      have before : (blockRound cfg b)^[n + 1] [] ≠ (blockRound cfg b)^[n] [] := by
        intro h
        refine same ?_
        rw [Function.iterate_succ_apply' _ (n + 1), h, ← Function.iterate_succ_apply' (blockRound cfg b) n, h]
      have := ih before (grows n before)
      omega

/-- As many rounds as there are slots block all that are to be blocked. -/
theorem blockRound_toBlock (cfg : WorkingConfig) (b : Board) : blockRound cfg b (toBlock cfg b) = toBlock cfg b := by
  rcases blockRound_stops_or_grows cfg b 20 with h | h
  · rwa [Function.iterate_succ_apply'] at h
  · have : ((blockRound cfg b)^[20 + 1] []).length ≤ 20 := by
      rw [Function.iterate_succ_apply']
      exact List.length_filter_le _ slots
    omega

/-! ### Listing and issuing -/

theorem enlist_eq (b : Board) (act : ActKind) (l : List Slot) : ∃ now : List Action,
    enlist b act l = { b with
      issue := b.issue.filter (fun a => a.slot ∉ b.listedNow) ++ now, listedNow := b.listedNow ++ l }
    ∧ now.Perm (b.issue.filter (fun a => a.slot ∈ b.listedNow) ++ l.map (fun i => ⟨i, act⟩))
    ∧ now.Pairwise (fun a c => a.slot ≤ c.slot) := by
  have total : Std.Total (fun a c : Action => a.slot ≤ c.slot) := ⟨fun a c => le_total a.slot c.slot⟩
  have trans : IsTrans Action (fun a c => a.slot ≤ c.slot) := ⟨fun _ _ _ => le_trans⟩
  refine ⟨_, ?_, List.perm_insertionSort (fun a c : Action => a.slot ≤ c.slot) _, List.pairwise_insertionSort _ _⟩
  unfold enlist
  simp only [List.contains_eq_mem, decide_not]

/-! ### The steps in their order -/

/-- LOWERING, change by change. -/
theorem loweringStep_eq (e : Env) (b : Board) : loweringStep e b =
    if b.issue.any (fun a => (b.stateOf a.slot).isDown) then some { b with
      issue := b.issue.filter (fun a => !(b.stateOf a.slot).isDown)
      held := b.held && !(b.issue.head?.any (fun a => (b.stateOf a.slot).isDown)) }
    else if levelBlockedOff b ≠ [] then some (blockLevels e b (levelBlockedOff b))
    else rejoinStep e b <|> blockTestStep e b <|> eligibleStep b .off (offEligible e b) <|> issueStep e b <|>
      (if loweringOver b then some { b with phase := .raising } else none) := by
  unfold loweringStep purgeStep
  rw [orElse_of_ite, levelStep_eq, orElse_of_ite]

/-- RAISING, change by change. -/
theorem raisingStep_eq (e : Env) (b : Board) : raisingStep e b =
    if b.issue.any (fun a => (b.stateOf a.slot).isDown) then some { b with
      issue := b.issue.filter (fun a => !(b.stateOf a.slot).isDown)
      held := b.held && !(b.issue.head?.any (fun a => (b.stateOf a.slot).isDown)) }
    else blockStep e b <|> retryStep e b <|> eligibleStep b .on (onEligible e b) <|> issueStep e b <|>
      grantStep e b <|> (if raisingOver e b then some (endRaising e b) else none) := by
  unfold raisingStep purgeStep
  rw [orElse_of_ite]

end Sys2Proof.Machine
end

section
/-! SETTLEMENT. How members move. -/

namespace Sys2Proof.Machine

/-- Settles O22: the changes of LOWERING and RAISING in their order, what is blocked, listed and issued. -/
theorem membersMoveInDependencyOrder : Obligations.MembersMoveInDependencyOrder := by
  unfold Obligations.MembersMoveInDependencyOrder
  refine ⟨?_, ?_, ?_, enlist_eq, ?_⟩
  · intro e b h
    have phase : engineStep e b = loweringStep e b := by simp only [engineStep, h]
    rw [phase, loweringStep_eq, levelBlockedOff_eq]
    dsimp only
    refine if_congr Iff.rfl rfl (if_congr Iff.rfl ?_ ?_)
    · rfl
    · have back : slots.filter (fun i => (b.node i).member == some true && b.stateOf i == .off)
          = slots.filter (fun i => (b.node i).member = some true ∧ b.stateOf i = .off) :=
        List.filter_congr fun i _ => by rw [Bool.eq_iff_iff]; simp
      unfold rejoinStep
      rw [back]
      cases slots.filter (fun i => (b.node i).member = some true ∧ b.stateOf i = .off) with
      | cons i l => rfl
      | nil =>
        rw [orElse_of_none rfl]
        dsimp only
        by_cases test : b.blockTest = true
        · rw [if_pos test]
          cases block : toBlock e.cfg b with
          | cons i l => exact orElse_of_some (blockTestStep_of_cons test block) _
          | nil => exact orElse_of_some (blockTestStep_of_nil test block) _
        · rw [if_neg test, orElse_of_none (blockTestStep_of_not (Bool.eq_false_iff.mpr test)), eligibleStep_eq,
            orElse_of_ite, offEligible_eq]
          refine if_congr Iff.rfl rfl ?_
          cases issueStep e b with
          | some t => rfl
          | none => exact if_congr (loweringEnds_iff b) rfl rfl
  · intro e b h
    have phase : engineStep e b = raisingStep e b := by simp only [engineStep, h]
    rw [phase, raisingStep_eq]
    dsimp only
    refine if_congr Iff.rfl rfl ?_
    cases block : toBlock e.cfg b with
    | cons i l => exact orElse_of_some (blockStep_of_cons block) _
    | nil =>
      rw [orElse_of_none (blockStep_of_nil block), eligibleStep_eq]
      unfold retryStep
      rw [retried_eq, onEligible_eq]
      dsimp only
      cases slots.filter (fun i => ((b.node i).member = some true ∧ b.stateOf i = .pending false
          ∧ ∀ p ∈ e.cfg.prereqs i, (b.stateOf p).isGood = true) ∧ b.stack.any (fun a => a.slot == i) = true) with
      | cons i l => rfl
      | nil =>
        rw [orElse_of_none rfl, orElse_of_ite]
        refine if_congr Iff.rfl rfl ?_
        cases issueStep e b with
        | some t => rfl
        | none =>
          cases grantStep e b with
          | some t => rfl
          | none => exact raisingEnd_eq e b
  · intro cfg b i
    conv_lhs => rw [← blockRound_toBlock]
    exact mem_blockRound cfg b _ i
  · intro e b
    refine ⟨fun h => by simp [issueStep, h], fun a rest h => ?_⟩
    unfold issueStep issueHead
    rw [h]
    cases b.stepHold <;> rfl

end Sys2Proof.Machine
end

section
/-! SUPPORT. The changes of REVERSING: the removal of undo entries, the table of forward entries, the end. -/

namespace Sys2Proof.Machine

section
variable {e : Env} {b : Board}

theorem purgeStep_of_not (h : b.issue.any (fun a => (b.stateOf a.slot).isDown) = false) : purgeStep b = none := by
  unfold purgeStep; rw [h]; rfl

theorem purgeStep_of_any (h : b.issue.any (fun a => (b.stateOf a.slot).isDown) = true) : purgeStep b = some { b with
    issue := b.issue.filter (fun a => !(b.stateOf a.slot).isDown)
    held := b.held && !(b.issue.head?.any (fun a => (b.stateOf a.slot).isDown)) } := by
  unfold purgeStep; rw [h]; rfl

theorem purgeStep_of_nil (h : b.issue = []) : purgeStep b = none := purgeStep_of_not (by rw [h]; rfl)

theorem issueStep_of_nil (h : b.issue = []) : issueStep e b = none := by unfold issueStep; rw [h]

theorem grantStep_of_nil (h : b.queue e.cfg = []) : grantStep e b = none := by unfold grantStep; rw [h]

/-- An undo entry on top leaves the stack when its node is at rest. -/
theorem undoneStep_of_undo {i : Slot} {act : ActKind} {l : List Action} (hs : b.stack = ⟨i, act⟩ :: l)
    (h : act = .undoOn ∨ act = .undoOff) :
    undoneStep b = if (b.stateOf i).atRest then some { b with stack := l } else none := by
  unfold undoneStep
  rw [hs]
  rcases h with rfl | rfl <;> rfl

theorem undoneStep_of_forward (h : ∀ a l, b.stack = a :: l → a.act = .on ∨ a.act = .off) : undoneStep b = none := by
  unfold undoneStep
  split
  · rename_i hs; simpa using h _ _ hs
  · rename_i hs; simpa using h _ _ hs
  · rfl

theorem undoneStep_of_busy
    (h : ∀ a l, b.stack = a :: l → (a.act = .undoOn ∨ a.act = .undoOff) → (b.stateOf a.slot).atRest = false) :
    undoneStep b = none := by
  unfold undoneStep
  split
  · rename_i hs; rw [h _ _ hs (.inl rfl)]; rfl
  · rename_i hs; rw [h _ _ hs (.inr rfl)]; rfl
  · rfl

theorem allAtRest_iff (b : Board) : b.allStates NodeState.atRest = true ↔
    ∀ i, b.stateOf i = .off ∨ b.stateOf i = .good ∨ (b.stateOf i).isFaulted = true := by
  unfold Board.allStates
  rw [slots_all_iff]
  refine forall_congr' fun i => ?_
  cases b.stateOf i <;> simp [NodeState.atRest, NodeState.isFaulted]

theorem undoStep_of_rest {a : Action} {l : List Action} (h : b.allStates NodeState.atRest = true) (hs : b.stack = a :: l) :
    undoStep e b = settleTop e b a l := by
  unfold undoStep; rw [h, hs]; rfl

theorem undoStep_of_nil (hs : b.stack = []) : undoStep e b = none := by
  unfold undoStep; rw [hs]; split <;> rfl

theorem undoStep_of_not_rest (h : b.allStates NodeState.atRest = false) : undoStep e b = none := by
  unfold undoStep; rw [h]; rfl

theorem engineStep_of_reversing (h : b.phase = .reversing) : engineStep e b = reversingStep e b := by
  simp only [engineStep, h]

/-- With nothing listed and nothing queued REVERSING works on the stack alone. -/
theorem reversingStep_of_quiet (hi : b.issue = []) (hq : b.queue e.cfg = []) : reversingStep e b =
    (undoneStep b <|> undoStep e b <|> (if reversingOver b then some (endReversing e b) else none)) := by
  unfold reversingStep
  rw [orElse_of_none (purgeStep_of_nil hi), orElse_of_none (issueStep_of_nil hi), orElse_of_none (grantStep_of_nil hq)]

/-- A forward entry at rest is settled by the table (R136). -/
theorem reversingStep_of_forward {i : Slot} {act : ActKind} {l : List Action} {t : Board} (hi : b.issue = [])
    (hq : b.queue e.cfg = []) (rest : b.allStates NodeState.atRest = true) (hs : b.stack = ⟨i, act⟩ :: l)
    (h : act = .on ∨ act = .off) (ht : settleTop e b ⟨i, act⟩ l = some t) : reversingStep e b = some t := by
  have forward : undoneStep b = none := undoneStep_of_forward fun a m ha => by
    obtain ⟨rfl, rfl⟩ := List.cons.inj (hs.symm.trans ha)
    exact h
  rw [reversingStep_of_quiet hi hq, orElse_of_none forward]
  exact orElse_of_some ((undoStep_of_rest rest hs).trans ht) _

/-- Listing on an empty list. -/
theorem enlist_of_nil (h : b.issue = []) (act : ActKind) (i : Slot) :
    enlist b act [i] = { b with issue := [⟨i, act⟩], listedNow := b.listedNow ++ [i] } := by
  unfold enlist
  rw [h]
  rfl

/-! ### The table -/

theorem settleTop_of_faulted {i : Slot} {act : ActKind} (l : List Action) (h : act = .on ∨ act = .off)
    (hf : (b.stateOf i).isFaulted = true) : settleTop e b ⟨i, act⟩ l = some { b with stack := l } := by
  cases hst : b.stateOf i with
  | faulted k => rcases h with rfl | rfl <;> simp only [settleTop, hst]
  | _ => rw [hst] at hf; exact absurd hf Bool.false_ne_true

theorem settleTop_on_off {i : Slot} (l : List Action) (h : b.stateOf i = .off) :
    settleTop e b ⟨i, .on⟩ l = some { b with stack := l } := by simp only [settleTop, h]

theorem settleTop_off_good {i : Slot} (l : List Action) (h : b.stateOf i = .good) :
    settleTop e b ⟨i, .off⟩ l = some { b with stack := l } := by simp only [settleTop, h]

theorem settleTop_on_good {i : Slot} (l : List Action) (h : b.stateOf i = .good) (hd : b.dependentsDown e.cfg i = true) :
    settleTop e b ⟨i, .on⟩ l = some (enlist (enter e.cfg b i (.pending true) none) .undoOff [i]) := by
  simp only [settleTop, h, hd, if_true]

theorem settleTop_off_off {i : Slot} (l : List Action) (h : b.stateOf i = .off) : settleTop e b ⟨i, .off⟩ l =
    if b.prereqsGood e.cfg i then some (enlist (enter e.cfg b i (.pending false) none) .undoOn [i])
    else some (takeFault e { b with stack := l } i .blocked false) := by
  simp only [settleTop, h]

end

end Sys2Proof.Machine
end

section
/-! SETTLEMENT. REVERSING. -/

namespace Sys2Proof.Machine

/-- Settles O23: the purge and the listed undo while nodes move, the table of entries while they rest. -/
theorem undoOneEntryAtATime : Obligations.UndoOneEntryAtATime := by
  unfold Obligations.UndoOneEntryAtATime
  refine ⟨fun e b phase => ⟨fun gone => ?_, fun gone busy moving => ?_⟩, fun e b phase hi hq => ?_⟩
  · rw [engineStep_of_reversing phase]
    exact orElse_of_some (purgeStep_of_any gone) _
  · have notRest : b.allStates NodeState.atRest = false := by
      obtain ⟨i, h1, h2, h3⟩ := moving
      refine Bool.eq_false_iff.mpr fun h => ?_
      rcases (allAtRest_iff b).mp h i with h | h | h
      · exact h1 h
      · exact h2 h
      · exact Bool.false_ne_true (h3.symm.trans h)
    rw [engineStep_of_reversing phase]
    unfold reversingStep reversingOver
    rw [orElse_of_none (purgeStep_of_not gone), orElse_of_none (undoneStep_of_busy busy),
      orElse_of_none (undoStep_of_not_rest notRest), notRest]
    cases issueStep e b with
    | some t => rfl
    | none =>
      rw [orElse_of_none rfl]
      cases grantStep e b <;> simp
  · dsimp only
    rw [engineStep_of_reversing phase, ← allAtRest_iff]
    refine ⟨fun rest hs => ?_, fun moving forward => ?_, fun i act l hs => ⟨fun undo rests => ?_, fun rest h hf => ?_,
      fun rest h hst => ?_, fun rest h hst => ?_, fun rest h hst down => ?_, fun rest h hst good => ?_,
      fun rest h hst bad => ?_⟩⟩
    · have forward : undoneStep b = none := undoneStep_of_forward fun a l h => by rw [hs] at h; cases h
      rw [reversingStep_of_quiet hi hq, orElse_of_none forward, orElse_of_none (undoStep_of_nil hs)]
      exact if_pos (by rw [reversingOver, hs, rest]; rfl)
    · have moving := Bool.eq_false_iff.mpr moving
      rw [reversingStep_of_quiet hi hq, orElse_of_none (undoneStep_of_forward forward),
        orElse_of_none (undoStep_of_not_rest moving)]
      exact if_neg (by rw [reversingOver, moving, Bool.and_false]; exact Bool.false_ne_true)
    · rw [reversingStep_of_quiet hi hq]
      exact orElse_of_some ((undoneStep_of_undo hs undo).trans (if_pos rests)) _
    · exact reversingStep_of_forward hi hq rest hs h (settleTop_of_faulted l h hf)
    · subst h
      exact reversingStep_of_forward hi hq rest hs (.inl rfl) (settleTop_on_off l hst)
    · subst h
      exact reversingStep_of_forward hi hq rest hs (.inr rfl) (settleTop_off_good l hst)
    · subst h
      refine reversingStep_of_forward hi hq rest hs (.inl rfl)
        ((settleTop_on_good l hst ((dependentsDown_iff b e.cfg i).mpr down)).trans ?_)
      exact congrArg some (enlist_of_nil (b := enter e.cfg b i (.pending true) none) hi .undoOff i)
    · subst h
      refine reversingStep_of_forward hi hq rest hs (.inr rfl)
        (((settleTop_off_off l hst).trans (if_pos ((prereqsGood_iff b e.cfg i).mpr good))).trans ?_)
      exact congrArg some (enlist_of_nil (b := enter e.cfg b i (.pending false) none) hi .undoOn i)
    · subst h
      refine reversingStep_of_forward hi hq rest hs (.inr rfl) ((settleTop_off_off l hst).trans (if_neg fun good => ?_))
      obtain ⟨p, hp, hbad⟩ := bad
      exact Bool.false_ne_true (hbad.symm.trans ((prereqsGood_iff b e.cfg i).mp good p hp))

end Sys2Proof.Machine
end

section
/-! SETTLEMENT. The ends of a transition. -/

namespace Sys2Proof.Machine

theorem isResume_iff (k : Kind) : k.isResume = true ↔ k = .up ∨ k = .dozeOut := by cases k <;> simp [Kind.isResume]

theorem isDownward_iff (k : Kind) : k.isDownward = true ↔ k = .dozeIn ∨ k = .down ∨ k = .drop := by
  cases k <;> simp [Kind.isDownward]

theorem isDownward_eq (k : Kind) : k.isDownward = decide (k = .dozeIn ∨ k = .down ∨ k = .drop) := by cases k <;> rfl

/-- What returning to IDLE leaves of a slot. -/
theorem node_returnToIdle (b : Board) (i : Slot) : (returnToIdle b).node i =
    { b.node i with target := false, levelBlocked := false, member := none, startLevel := false } :=
  node_map b Node.clearPlan i

section
variable {e : Env} {b : Board} {r : Record}

theorem absorbs_eq (p : Platform) : (p == Platform.working) = decide (p = .working) := by cases p <;> rfl

/-- The record a completion closes (R20, R23). -/
def completed (e : Env) (b : Board) (r : Record) : Record := { r with
  reached := some r.target, outcome := some .completed, absorbed := if r.target = .working then b.wakes else []
  duration := min 65535 (e.now - b.startedAt) }

theorem complete_of_record (hr : b.record = some r) : complete e b = { closeTransition b (completed e b r) with
    platform := r.target
    wakes := if r.target = .working then [] else b.wakes
    watchdog := if r.kind.isResume then armWatchdog e b.watchdog r.kind .completed else b.watchdog
    dwell := match r.kind, b.requestedDwell with
      | .dozeIn, some m => .running m (e.now + m * 60000)
      | _, _ => b.dwell
    followOn := followOnOfCompletion e b r } := by
  simp only [complete, hr, absorbs_eq, decide_eq_true_eq, durationOf, completed] <;> rfl

/-- A reversal into WORKING. -/
def regained (r : Record) : Bool :=
  decide (r.kind = .dozeIn ∨ r.kind = .down ∨ r.kind = .drop) && decide (r.source = .working)

/-- The record the end of REVERSING closes (R139 to R141). -/
def undone (e : Env) (b : Board) (r : Record) : Record := { r with
  reached := some r.source
  outcome := some (if decide (r.kind = .dozeIn ∨ r.kind = .down ∨ r.kind = .drop) then .reversed else .unwound)
  absorbed := if regained r then b.wakes else []
  duration := min 65535 (e.now - b.startedAt) }

theorem endReversing_of_record (hr : b.record = some r) : endReversing e b = { closeTransition b (undone e b r) with
    wakes := if regained r then [] else b.wakes
    watchdog := if regained r then armWatchdog e b.watchdog r.kind .reversed else b.watchdog
    counter := counterAfterUnwind b r
    followOn := if r.kind.isResume ∧ counterAfterUnwind b r = 3 ∧ r.source ≠ .off then some .recoveryDrop else none } := by
  simp only [endReversing, hr, durationOf, undone, regained, isDownward_eq, absorbs_eq] <;> rfl

/-- Arming under a condition (R172). -/
theorem armWatchdog_ite {c : Bool} {p : Prop} [Decidable p] (h : c = true ↔ p) (w : Watchdog) (k : Kind) (o : Ended) :
    (if c then armWatchdog e w k o else w) = if p ∧ e.cfg.settings.resumeDeadline ≠ 0
      then .armed (e.cfg.settings.resumeDeadline * 1000) e.now false k o else w := by
  unfold armWatchdog
  by_cases hp : p <;> by_cases hd : e.cfg.settings.resumeDeadline = 0 <;> simp [h, hp, hd]

end

/-- Settles O24: the completion and the end of REVERSING, field by field. -/
theorem transitionEnds : Obligations.TransitionEnds := by
  unfold Obligations.TransitionEnds
  refine ⟨fun e b r hr => ?_, fun e b r hr => ?_⟩
  · rw [complete_of_record hr]
    intro t absorbed done
    refine ⟨rfl, rfl, rfl, rfl, rfl, rfl, rfl, rfl, rfl, rfl, armWatchdog_ite (isResume_iff r.kind) .., ?_, rfl, rfl, rfl,
      rfl, rfl, rfl, rfl, rfl, rfl, node_returnToIdle b⟩
    show (match r.kind, b.requestedDwell with
      | .dozeIn, some m => Dwell.running m (e.now + m * 60000)
      | _, _ => b.dwell) = _
    cases r.kind <;> cases b.requestedDwell <;> rfl
  · rw [endReversing_of_record hr]
    intro t down resume working counter done
    have resumes : r.kind.isResume = resume := by show _ = decide _; cases r.kind <;> rfl
    have count : counterAfterUnwind b r = counter := by unfold counterAfterUnwind; rw [resumes]
    refine ⟨rfl, rfl, rfl, rfl, rfl, rfl, rfl, rfl, rfl, rfl, count, armWatchdog_ite Iff.rfl .., ?_, rfl, rfl, rfl, rfl,
      rfl, rfl, rfl, rfl, node_returnToIdle b⟩
    show (if _ then _ else _) = _
    rw [resumes, count]

end Sys2Proof.Machine
end

section
/-! SETTLEMENT. The claims of an IDLE engine. -/

namespace Sys2Proof.Machine

section
variable {e : Env} {b : Board}

theorem mayStart_eq_false_iff (e : Env) (b : Board) :
    b.mayStart e = false ↔ e.unconfigured = true ∨ b.lockout ≠ .none := by
  unfold Board.mayStart
  cases e.unconfigured <;> cases b.lockout <;> simp

theorem wakeServed_eq (e : Env) (b : Board) : wakeServed e b =
    if b.platform ≠ .working ∧ e.acokHigh = true then pickWake e.cfg b.wakes else none := by
  unfold wakeServed
  refine if_congr ?_ rfl rfl
  cases b.platform <;> simp [Platform.isSleeping]

theorem chainHolds_iff (e : Env) (b : Board) :
    chainHolds e b = true ↔ b.dwell = .expired ∧ b.platform = .doze ∧ e.acokHigh = true := by
  simp [chainHolds, and_assoc]

theorem acRestoreHolds_iff (e : Env) (b : Board) : acRestoreHolds e b = true ↔
    b.acRestore = true ∧ b.platform = .off ∧ e.acokHigh = true ∧ e.cfg.settings.acPolicy = .powerOn := by
  simp [acRestoreHolds, and_assoc]

theorem recoveryHolds_iff (b : Board) : recoveryHolds b = true ↔ b.recovery = true ∧ b.platform = .working := by
  simp [recoveryHolds]

/-- The service choice takes the first entry whose priority number no later entry undercuts and every earlier one
exceeds (R122). -/
theorem pickWake_spec (cfg : WorkingConfig) (l : List SourceId) :
    (pickWake cfg l = none ↔ l = [])
    ∧ ∀ id, pickWake cfg l = some id → ∃ l1 l2, l = l1 ++ id :: l2
      ∧ (∀ x ∈ l1, cfg.wakePriority id < cfg.wakePriority x) ∧ ∀ x ∈ l2, cfg.wakePriority id ≤ cfg.wakePriority x := by
  induction l with
  | nil => exact ⟨by simp [pickWake], fun id h => by simp [pickWake] at h⟩
  | cons a l ih =>
    obtain ⟨ihn, ihs⟩ := ih
    cases hp : pickWake cfg l with
    | none =>
      obtain rfl := ihn.mp hp
      refine ⟨by simp [pickWake], fun id h => ?_⟩
      obtain rfl : a = id := by simpa [pickWake] using h
      exact ⟨[], [], rfl, by simp, by simp⟩
    | some best =>
      obtain ⟨l1, l2, hl, h1, h2⟩ := ihs best hp
      have pick : pickWake cfg (a :: l) =
          if cfg.wakePriority a ≤ cfg.wakePriority best then some a else some best := by simp only [pickWake, hp]
      rw [pick]
      split
      · rename_i le
        refine ⟨by simp, fun id h => ?_⟩
        obtain rfl := Option.some.inj h
        refine ⟨[], l, rfl, by simp, fun x hx => ?_⟩
        rw [hl, List.mem_append, List.mem_cons] at hx
        rcases hx with hx | rfl | hx
        · exact le.trans (h1 x hx).le
        · exact le
        · exact le.trans (h2 x hx)
      · rename_i lt
        refine ⟨by simp, fun id h => ?_⟩
        obtain rfl := Option.some.inj h
        refine ⟨a :: l1, l2, by rw [hl]; rfl, fun x hx => ?_, h2⟩
        rcases List.mem_cons.mp hx with rfl | hx
        · omega
        · exact h1 x hx

end

/-- Settles O25: the lockout, the follow-on and the claims in their order; the follow-on; the service choice. -/
theorem claimsAreTakenInOrder : Obligations.ClaimsAreTakenInOrder := by
  unfold Obligations.ClaimsAreTakenInOrder
  refine ⟨fun e b idle => ?_, fun e b f => ?_, pickWake_spec⟩
  · have phase : engineStep e b = idleStep e b := by simp only [engineStep, idle]
    rw [phase]
    unfold idleStep takeClaim
    simp only [Bool.not_eq_true', mayStart_eq_false_iff, recoveryHolds_iff, chainHolds_iff, acRestoreHolds_iff,
      wakeServed_eq]
    rfl
  · dsimp only
    unfold takeFollowOn
    cases may : b.mayStart e with
    | false => rw [if_pos ((mayStart_eq_false_iff e b).mp may)]; rfl
    | true =>
      rw [if_neg fun h => Bool.false_ne_true (((mayStart_eq_false_iff e b).mpr h).symm.trans may)]
      cases f <;> rfl

end Sys2Proof.Machine
end

section
/-! SUPPORT. The begin of REVERSING slot by slot. -/

namespace Sys2Proof.Machine

/-- A loop over the slots, each turn a function of its own slot while a property of the board is kept. -/
theorem forSlots_node_of (P : Board → Prop) (f : Board → Slot → Board) (g : Slot → Node → Node)
    (keep : ∀ b i, P b → P (f b i)) (self : ∀ b i, P b → (f b i).node i = g i (b.node i))
    (other : ∀ b i, OnlySlot i b (f b i)) (b : Board) (hb : P b) (j : Slot) : (b.forSlots f).node j = g j (b.node j) := by
  have key : ∀ l : List Slot, l.Nodup → ∀ b, P b → (l.foldl f b).node j = if j ∈ l then g j (b.node j) else b.node j := by
    intro l
    induction l with
    | nil => intro _ b _; simp
    | cons i l ih =>
      intro hn b hb
      rw [List.nodup_cons] at hn
      rw [List.foldl_cons, ih hn.2 _ (keep b i hb)]
      by_cases hji : j = i
      · subst hji; simp [hn.1, self b j hb]
      · simp [hji, other b i j hji]
  unfold Board.forSlots
  rw [key slots slots_nodup b hb]
  simp [mem_slots]

section
variable {e : Env} {b : Board}

/-- A fault outside LOWERING keeps the slot's part in the change set. -/
theorem node_reportFault_self (k : FaultKind) (c : Consequence) (i : Slot) (h : b.phase ≠ .lowering) :
    (reportFault e b i k c).node i = (b.node i).withState (.faulted k) none := by
  unfold reportFault
  simp only [node_post, node_updNode_self]
  rw [show (b.phase == Phase.lowering) = false from beq_false_of_ne h]
  exact node_enter_self e.cfg b i (.faulted k) none

/-- Steps 3 and 4 on a slot. -/
def Node.toStart (n : Node) : Node :=
  match n.state with
  | .queued | .pending false => n.withState .off none
  | .pending true => n.withState .good none
  | .off | .ramping | .settling | .good | .stopping | .discharging | .faulted _ => n

/-- A node that is to take BLOCKED when it comes to rest. -/
def Node.endingBlocked (n : Node) : Node := { n with ending := .blocked }

/-- Step 8 on a slot. -/
def Node.blockLost (n : Node) (hasEntry : Bool) : Node :=
  if n.startLevel && !hasEntry then
    match n.state with
    | .off => n.withState (.faulted .blocked) none
    | .stopping | .discharging => n.endingBlocked
    | .pending _ | .queued | .ramping | .settling | .good | .faulted _ => n
  else n

/-- The state of a slot after steps 3 and 4. -/
theorem toStart_state (n : Node) : n.toStart.state = match n.state with
    | .queued | .pending false => .off
    | .pending true => .good
    | st => st := by
  unfold Node.toStart
  split <;> simp_all

theorem toStart_keeps (n : Node) : n.toStart.startLevel = n.startLevel ∧ n.toStart.retriesLeft = n.retriesLeft := by
  unfold Node.toStart
  split <;> exact ⟨rfl, rfl⟩

/-- A node that falls after steps 3 and 4 has not been touched by them. -/
theorem toStart_of_falling (n : Node) (h : n.toStart.state.isFalling = true) : n.toStart = n := by
  unfold Node.toStart at h ⊢
  split at h
  iterate 3 · cases h
  all_goals rfl

theorem dissolve_state (n : Node) (hasEntry : Bool) : (n.dissolve hasEntry).state = n.state := rfl

theorem dissolve_startLevel (n : Node) (hasEntry : Bool) : (n.dissolve hasEntry).startLevel = n.startLevel := rfl

theorem dissolve_failure_of_discharging (n : Node) (hasEntry : Bool) (h : n.state = .discharging) :
    (n.dissolve hasEntry).failure = false := by
  simp [Node.dissolve, h]

theorem blockLost_keeps (n : Node) (hasEntry : Bool) : (n.blockLost hasEntry).member = n.member
    ∧ (n.blockLost hasEntry).levelBlocked = n.levelBlocked ∧ (n.blockLost hasEntry).target = n.target
    ∧ (n.blockLost hasEntry).startLevel = n.startLevel ∧ (n.blockLost hasEntry).retriesLeft = n.retriesLeft := by
  unfold Node.blockLost
  split
  · cases n.state <;> exact ⟨rfl, rfl, rfl, rfl, rfl⟩
  · exact ⟨rfl, rfl, rfl, rfl, rfl⟩

/-- Step 8 makes a lost node that is OFF FAULTED, and no other. -/
theorem blockLost_state (n : Node) (hasEntry : Bool) : (n.blockLost hasEntry).state =
    if n.startLevel && !hasEntry && n.state == .off then .faulted .blocked else n.state := by
  unfold Node.blockLost
  cases n.startLevel && !hasEntry with
  | false => rfl
  | true => cases hs : n.state <;> simp [Node.endingBlocked, hs]

theorem blockLost_failure_of_discharging (n : Node) (hasEntry : Bool) (h : n.state = .discharging) :
    (n.blockLost hasEntry).failure = n.failure := by
  unfold Node.blockLost
  rw [h]
  split <;> rfl

/-- What the begin of REVERSING leaves a node that falls. -/
theorem falling_after_begin (n : Node) (hasEntry : Bool) (h : n.state.isFalling = true) :
    ((n.dissolve hasEntry).blockLost hasEntry).deadline = n.deadline
    ∧ ((n.dissolve hasEntry).blockLost hasEntry).forced = n.forced
    ∧ ((n.dissolve hasEntry).blockLost hasEntry).ending = if (n.startLevel && !hasEntry) = true then .blocked
      else if n.forced = true ∧ ¬(n.member = some true ∧ ¬hasEntry = true) then n.ending else .off := by
  have ending : (n.dissolve hasEntry).ending =
      if n.forced = true ∧ ¬(n.member = some true ∧ ¬hasEntry = true) then n.ending else .off := by
    unfold Node.dissolve Node.stillFalls
    rw [h]
    cases n.forced <;> cases hasEntry <;> by_cases hm : n.member = some true <;> simp [hm]
  unfold Node.blockLost
  rw [dissolve_startLevel, ← ending]
  split
  · rw [dissolve_state]
    rcases (isFalling_iff _).mp h with hs | hs <;> rw [hs] <;> exact ⟨rfl, rfl, rfl⟩
  · exact ⟨rfl, rfl, rfl⟩

theorem node_returnToStart (e : Env) (b : Board) (i : Slot) : (returnToStart e b i).node i = (b.node i).toStart := by
  unfold returnToStart Node.toStart Board.stateOf
  cases (b.node i).state with
  | pending on => cases on <;> exact node_enter_self ..
  | queued => exact node_enter_self ..
  | _ => rfl

theorem onlySlot_returnToStart (e : Env) (b : Board) (i : Slot) : OnlySlot i b (returnToStart e b i) := by
  unfold returnToStart
  cases b.stateOf i with
  | pending on => cases on <;> exact onlySlot_enter _ _ _ _ _
  | queued => exact onlySlot_enter _ _ _ _ _
  | _ => exact OnlySlot.refl i b

theorem onlySlots_returnToStart (e : Env) (b : Board) (i : Slot) : OnlySlots b (returnToStart e b i) := by
  unfold returnToStart
  cases b.stateOf i with
  | pending on => cases on <;> exact onlySlots_enter ..
  | queued => exact onlySlots_enter ..
  | _ => exact OnlySlots.refl b

theorem node_blockReleased (i : Slot) (h : b.phase = .reversing) :
    (blockReleased e b i).node i = (b.node i).blockLost (listed b.stack i) := by
  unfold blockReleased Node.blockLost Board.stateOf
  split
  · cases (b.node i).state with
    | off => exact node_reportFault_self .blocked .none i (by rw [h]; exact nofun)
    | stopping => exact node_updNode_self b i Node.endingBlocked
    | discharging => exact node_updNode_self b i Node.endingBlocked
    | _ => rfl
  · rfl

theorem onlySlot_blockReleased (e : Env) (b : Board) (i : Slot) : OnlySlot i b (blockReleased e b i) := by
  unfold blockReleased
  split
  · cases b.stateOf i with
    | off => exact onlySlot_reportFault _ _ _ _ _
    | stopping => exact onlySlot_updNode _ _ _
    | discharging => exact onlySlot_updNode _ _ _
    | _ => exact OnlySlot.refl i b
  · exact OnlySlot.refl i b

/-- Everything but slots, lines, the budget, the record and the notices, which a turn may change. -/
def OnlySlotsAndFaults (b t : Board) : Prop :=
  t = { b with
    nodes := t.nodes, outs := t.outs, inUse := t.inUse, record := t.record, notices := t.notices
    blockTest := t.blockTest }

theorem OnlySlotsAndFaults.refl (b : Board) : OnlySlotsAndFaults b b := rfl

theorem OnlySlotsAndFaults.trans {b t u : Board} (h : OnlySlotsAndFaults b t) (k : OnlySlotsAndFaults t u) :
    OnlySlotsAndFaults b u := by
  unfold OnlySlotsAndFaults at *; rw [k, h]

theorem OnlySlots.withFaults {b t : Board} (h : OnlySlots b t) : OnlySlotsAndFaults b t := by
  unfold OnlySlots at h; unfold OnlySlotsAndFaults; rw [h]

theorem OnlySlotsAndFaults.keeps {α : Type} {b t : Board} (h : OnlySlotsAndFaults b t) (f : Board → α)
    (hf : f { b with
      nodes := t.nodes, outs := t.outs, inUse := t.inUse, record := t.record, notices := t.notices
      blockTest := t.blockTest } = f b) : f t = f b :=
  (congrArg f (show t = _ from h)).trans hf

theorem forSlots_onlySlotsAndFaults (f : Board → Slot → Board) (h : ∀ b i, OnlySlotsAndFaults b (f b i)) (b : Board) :
    OnlySlotsAndFaults b (b.forSlots f) :=
  forSlots_induct (OnlySlotsAndFaults b) f (fun _ _ ht => ht.trans (h _ _)) b (OnlySlotsAndFaults.refl b)

theorem onlySlotsAndFaults_blockReleased (e : Env) (b : Board) (i : Slot) :
    OnlySlotsAndFaults b (blockReleased e b i) := by
  unfold blockReleased
  split
  · cases b.stateOf i with
    | off => rw [OnlySlotsAndFaults]; exact reportFault_eq ..
    | stopping => exact rfl
    | discharging => exact rfl
    | _ => exact OnlySlotsAndFaults.refl b
  · exact OnlySlotsAndFaults.refl b

/-- The board of a begin of REVERSING whose queued and PENDING nodes have returned to their start level. -/
def startedBack (e : Env) (b : Board) : Board :=
  ({ b with phase := .reversing, issue := [], emptyChange := false, blockTest := false, held := false }
    : Board).forSlots (returnToStart e)

/-- That board with its change set dissolved. -/
def dissolved (e : Env) (b : Board) : Board :=
  { startedBack e b with
    nodes := Vector.ofFn fun i => ((startedBack e b).node i).dissolve (listed (startedBack e b).stack i) }

theorem beginReversing_eq (e : Env) (b : Board) : beginReversing e b = (dissolved e b).forSlots (blockReleased e) := rfl

theorem onlySlots_dissolved (e : Env) (b : Board) :
    OnlySlots { b with phase := .reversing, issue := [], emptyChange := false, blockTest := false, held := false }
      (dissolved e b) :=
  (forSlots_onlySlots _ (onlySlots_returnToStart e) _).withNodes _

theorem onlySlotsAndFaults_beginReversing (e : Env) (b : Board) : OnlySlotsAndFaults
    { b with phase := .reversing, issue := [], emptyChange := false, blockTest := false, held := false }
    (beginReversing e b) :=
  (onlySlots_dissolved e b).withFaults.trans (forSlots_onlySlotsAndFaults _ (onlySlotsAndFaults_blockReleased e) _)

/-- A slot after the begin of REVERSING. -/
theorem node_beginReversing (e : Env) (b : Board) (i : Slot) : (beginReversing e b).node i =
    ((b.node i).toStart.dissolve (listed b.stack i)).blockLost (listed b.stack i) := by
  have frame := onlySlots_dissolved e b
  have phase : (dissolved e b).phase = .reversing := frame.keeps Board.phase rfl
  have stack : (dissolved e b).stack = b.stack := frame.keeps Board.stack rfl
  have back : (startedBack e b).node i = (b.node i).toStart :=
    forSlots_node (returnToStart e) (fun _ => Node.toStart) (node_returnToStart e) (onlySlot_returnToStart e) _ i
  have stackBack : (startedBack e b).stack = b.stack :=
    (forSlots_onlySlots _ (onlySlots_returnToStart e) _).keeps Board.stack rfl
  have plain : (dissolved e b).node i = (b.node i).toStart.dissolve (listed b.stack i) := by
    rw [← back, ← stackBack]
    exact node_ofFn (startedBack e b) (fun i => ((startedBack e b).node i).dissolve (listed (startedBack e b).stack i)) i
  rw [beginReversing_eq, ← plain]
  refine forSlots_node_of (fun c => c.phase = .reversing ∧ c.stack = b.stack) _
    (fun i n => n.blockLost (listed b.stack i)) (fun c j hc => ?_) (fun c j hc => ?_) (onlySlot_blockReleased e) _
    ⟨phase, stack⟩ i
  · have frame := onlySlotsAndFaults_blockReleased e c j
    exact ⟨(frame.keeps Board.phase rfl).trans hc.1, (frame.keeps Board.stack rfl).trans hc.2⟩
  · rw [← hc.2]
    exact node_blockReleased j hc.1

end

end Sys2Proof.Machine
end

section
/-! SETTLEMENT. The begin of REVERSING. -/

namespace Sys2Proof.Machine

theorem listed_iff (l : List Action) (i : Slot) : listed l i = true ↔ ∃ a ∈ l, a.slot = i := by
  simp [listed, List.any_eq_true]

/-- Settles O26: the engine's fields, then the three changes of a slot by its node state. -/
theorem reversingBegins : Obligations.ReversingBegins := by
  unfold Obligations.ReversingBegins
  intro e b
  have frame := onlySlotsAndFaults_beginReversing e b
  have node := node_beginReversing e b
  generalize beginReversing e b = t at frame node ⊢
  refine ⟨frame.keeps Board.phase rfl, frame.keeps Board.issue rfl, frame.keeps Board.held rfl,
    frame.keeps Board.stack rfl, frame.keeps Board.platform rfl, frame.keeps Board.wakes rfl,
    frame.keeps Board.counter rfl, frame.keeps Board.stepHold rfl, frame.keeps Board.pointer rfl, fun i => ?_⟩
  intro n here lost
  have entry : lost = (n.startLevel && !listed b.stack i) := rfl
  have back : here = n.toStart.state := (toStart_state n).symm
  clear_value lost here
  subst entry back
  simp only [← listed_iff, Board.stateOf, node i]
  change (((n.toStart.dissolve _).blockLost _).state = _) ∧ _
  generalize listed b.stack i = entry
  obtain ⟨startLevel, retries⟩ := toStart_keeps n
  obtain ⟨member, blocked, target, start, left⟩ := blockLost_keeps (n.toStart.dissolve entry) entry
  refine ⟨?_, member, blocked, target.trans startLevel, start.trans startLevel, left.trans retries, fun h => ?_,
    fun h => ?_⟩
  · rw [blockLost_state, dissolve_state, dissolve_startLevel, startLevel]
  · rw [blockLost_failure_of_discharging (n.toStart.dissolve entry) entry h]
    exact dissolve_failure_of_discharging n.toStart entry h
  · have same := toStart_of_falling n ((isFalling_iff _).mpr h)
    rw [same] at h ⊢
    exact falling_after_begin n entry ((isFalling_iff _).mpr h)

end Sys2Proof.Machine
end

section
/-! SETTLEMENT. The fate of an arrival. -/

namespace Sys2Proof.Machine

section
variable {e : Env} {b : Board} {id : SourceId}

theorem reverses_iff (cfg : WorkingConfig) (b : Board) (id : SourceId) (r : Record) : reverses cfg b id r = true ↔
    (b.phase = .lowering ∨ b.phase = .raising) ∧ (r.kind = .dozeIn ∨ r.kind = .down ∨ r.kind = .drop)
      ∧ b.reversible = true ∧ cfg.wakePolicy id = .reverse := by
  simp [reverses, isDownward_iff, and_assoc]

/-- An arrival that is no reversal cause joins the list. -/
theorem takeArrival_of_join (h : ∀ r, b.record = some r → reverses e.cfg b id r = false) :
    takeArrival e b id = { b with wakes := joinList b.wakes id } := by
  unfold takeArrival
  split
  · rfl
  · rename_i r hr
    rw [h r hr]
    rfl

theorem takeArrival_of_reverses {r : Record} (hr : b.record = some r) (h : reverses e.cfg b id r = true) :
    takeArrival e b id = beginReversing e { b with
      record := some { r with wake := some id }
      wakes := if r.source = .working then b.wakes else joinList b.wakes id } := by
  unfold takeArrival
  simp only [hr, h, if_true]
  cases r.source <;> rfl

/-- Without a lockout an armed arrival is taken. -/
theorem arrive_of_armed (h : b.lockout = .none) (ha : armed e b id = true) : arrive e b id = takeArrival e b id := by
  have taken : takeIfArmed e b id = takeArrival e b id := if_pos ha
  unfold arrive clearLockout
  rw [h]
  split
  · exact taken
  · exact taken

/-- A BUTTON arrival that clears the lockout goes on as any arrival. -/
theorem arrive_button_of_clear (h : b.lockout ≠ .none) (clears : b.lockout = .resume ∨ e.hotshutActive = false) :
    arrive e b buttonId = takeIfArmed e { b with lockout := .none, counter := 0 } buttonId := by
  unfold arrive clearLockout
  rw [if_pos rfl]
  cases hl : b.lockout with
  | none => exact absurd hl h
  | resume => rfl
  | thermal =>
    have cold : e.hotshutActive = false := clears.resolve_left (by rw [hl]; exact nofun)
    rw [cold]
    rfl

theorem armedSet_button (cfg : WorkingConfig) : cfg.armedSet buttonId = ⟨true, true, true⟩ := rfl

/-- Outside a lockout BUTTON is armed on an IDLE board in OFF, in a RELEVEL there and in DRAINING (R115). -/
theorem armed_button (configured : e.unconfigured = false) (unlocked : b.lockout = .none)
    (h : (b.phase = .idle ∧ b.platform = .off) ∨ b.phase = .draining
      ∨ ((b.phase = .lowering ∨ b.phase = .raising ∨ b.phase = .reversing)
        ∧ ∃ r, b.record = some r ∧ r.kind = .relevel ∧ r.source = .off)) : armed e b buttonId = true := by
  unfold armed
  rw [configured, unlocked, armedSet_button]
  rcases h with ⟨hp, hs⟩ | hp | ⟨hp, r, hr, _, hs⟩
  · simp [armedBySituation, hp, hs, Armed.has]
  · simp [armedBySituation, hp, Armed.has]
  · rcases hp with hp | hp | hp <;> simp [armedBySituation, hp, hr, hs, Armed.has]

end

/-- Settles O28: reversal, the list, and BUTTON under a lockout. -/
theorem arrivalsHaveOneFate : Obligations.ArrivalsHaveOneFate := by
  unfold Obligations.ArrivalsHaveOneFate
  refine ⟨fun e b id unlocked ha => ⟨fun r hr hp hk hm hpol => ?_, fun h => ?_⟩,
    fun e b locked => ⟨fun h => ?_, fun clears raw => ?_, fun clears configured h => ?_⟩⟩
  · rw [arrive_of_armed unlocked ha]
    exact takeArrival_of_reverses hr ((reverses_iff ..).mpr ⟨hp, hk, hm, hpol⟩)
  · rw [arrive_of_armed unlocked ha]
    refine takeArrival_of_join fun r hr => Bool.eq_false_iff.mpr fun hrev => ?_
    obtain ⟨hp, hk, hm, hpol⟩ := (reverses_iff ..).mp hrev
    rcases h with h | ⟨h1, h2⟩ | h | h | ⟨q, hq, h⟩
    · rw [hr] at h; cases h
    · exact hp.elim h1 h2
    · exact Bool.false_ne_true (h.symm.trans hm)
    · rw [hpol] at h; cases h
    · obtain rfl := Option.some.inj (hr.symm.trans hq)
      rcases h with h | h | h <;> rw [h] at hk <;> simp at hk
  · show arrive e b buttonId = b
    unfold arrive clearLockout
    rw [if_pos rfl, h.1, h.2]
    rfl
  · refine (arrive_button_of_clear locked clears).trans ?_
    exact if_neg (by rw [armed, raw]; exact Bool.false_ne_true)
  · refine (arrive_button_of_clear locked clears).trans ?_
    refine (if_pos (armed_button (b := { b with lockout := .none, counter := 0 }) configured rfl h)).trans (takeArrival_of_join fun r hr => ?_)
    refine Bool.eq_false_iff.mpr fun hrev => ?_
    obtain ⟨hp, hk, _, _⟩ := (reverses_iff ..).mp hrev
    rcases h with ⟨h, _⟩ | h | ⟨_, q, hq, h, _⟩
    · exact hp.elim (fun hp => by cases h.symm.trans hp) (fun hp => by cases h.symm.trans hp)
    · exact hp.elim (fun hp => by cases h.symm.trans hp) (fun hp => by cases h.symm.trans hp)
    · obtain rfl := Option.some.inj (hr.symm.trans hq)
      rw [h] at hk
      simp at hk

end Sys2Proof.Machine
end

section
/-! SUPPORT. A node whose output goes to its off level: its slot, its line, the budget; a fault report field by field. -/

namespace Sys2Proof.Machine

section
variable {e : Env} {b : Board} {i : Slot} {r : NodeRecord}

/-- Where a node falls (R56). -/
def fallState (r : NodeRecord) : NodeState := if r.body.isRail then .discharging else .stopping

theorem fall_eq (hr : e.cfg.node i = some r) :
    fall e b i = enter e.cfg b i (fallState r) (some ⟨.discharge, e.now + r.discharge⟩) := by
  unfold fall fallState; rw [hr]

theorem level_fallState (r : NodeRecord) : (fallState r).level = false := by
  unfold fallState; split <;> rfl

theorem fallState_ne_ramping (r : NodeRecord) : fallState r ≠ .ramping := by
  unfold fallState; split <;> exact nofun

theorem node_fall (hr : e.cfg.node i = some r) : (fall e b i).node i =
    (b.node i).withState (fallState r) (some ⟨.discharge, e.now + r.discharge⟩) := by
  rw [fall_eq hr]; exact node_enter_self ..

/-- The line of a falling node is at its off level (R52). -/
theorem outs_fall (hr : e.cfg.node i = some r) : (fall e b i).outs.get r.output = .driven (flipLevel r.polarity) := by
  rw [fall_eq hr]
  refine (outsFor_get_self hr b.outs (fallState r)).trans ?_
  rw [level_fallState]
  rfl

/-- A falling node gives its charge back (R78). -/
theorem inUse_fall (hr : e.cfg.node i = some r) : (fall e b i).inUse =
    if b.stateOf i = .ramping then b.inUse - (b.node i).charge else b.inUse := by
  rw [fall_eq hr]
  exact if_congr (and_iff_left (fallState_ne_ramping r)) rfl rfl

/-- The record after a fault report (R18). -/
theorem recordFault_eq (b : Board) (i : Slot) (k : FaultKind) (c : Consequence) :
    recordFault b i k (c != Consequence.none) =
      if b.phase = .lowering ∨ b.phase = .raising ∨ b.phase = .reversing then
        b.record.map (fun r => { r with fault := if r.fault = none ∨ c ≠ .none then some (i, k) else r.fault })
      else b.record := by
  unfold recordFault
  refine if_congr ?_ (congrArg (Option.map · b.record) (funext fun r => ?_)) rfl
  · cases b.phase <;> simp [Phase.inTransition]
  · congr 1
    exact if_congr (by simp) rfl rfl

theorem transitionKind_eq (b : Board) : b.transitionKind =
    if b.phase = .lowering ∨ b.phase = .raising ∨ b.phase = .reversing then b.record.map Record.kind else none := by
  unfold Board.transitionKind
  cases b.phase <;> rfl

/-- A transition of an upward kind is in progress. -/
def isUpward (b : Board) : Bool := match b.record with
  | some r => r.kind = .up ∨ r.kind = .dozeOut ∨ r.kind = .relevel
  | none => false

/-- The consequence of a critical loss in LOWERING and RAISING. -/
theorem unwinds_iff (b : Board) : (match b.record with
    | none => Consequence.emergency
    | some r => if r.kind.isDownward then .emergency else .unwind) = if isUpward b then .unwind else .emergency := by
  unfold isUpward
  cases b.record with
  | none => rfl
  | some r => cases hk : r.kind <;> simp [hk, Kind.isDownward]

/-- The consequence as R150 tells it. -/
theorem consequenceOf_eq (b : Board) (critical : Bool) : consequenceOf b critical = match b.phase with
    | .draining => .none
    | .idle | .reversing => if critical then .emergency else .none
    | .lowering | .raising => if critical then if isUpward b then .unwind else .emergency else .none := by
  rw [← unwinds_iff]
  unfold consequenceOf
  cases critical <;> cases b.phase <;> rfl

/-- A fault, by its consequence. -/
theorem takeFault_eq (e : Env) (b : Board) (i : Slot) (k : FaultKind) (loss : Bool) (released : List Slot)
    (c : Consequence) (hreleased : (if loss then releasedSet e.cfg b i else []) = released)
    (hc : consequenceOf b (isCriticalLoss e.cfg b i released) = c) : takeFault e b i k loss = match (generalizing := false) c with
      | .emergency => emergencyOff e (reportFault e b i k .emergency) .critical (some (i, k))
      | .unwind => cascade e (beginReversing e (reportFault e b i k .unwind)) released .unwind
      | .none => if b.phase = .draining then reportFault e b i k .none
        else cascade e (reportFault e b i k .none) released .none := by
  unfold takeFault
  dsimp only
  rw [hreleased, hc]
  cases c <;> rfl

theorem isCriticalLoss_eq (cfg : WorkingConfig) (b : Board) (i : Slot) (released : List Slot) :
    isCriticalLoss cfg b i released = (cfg.critical i
      || released.any (fun d => cfg.critical d && !(b.stateOf d == .stopping || b.stateOf d == .discharging))) := by
  have falling (st : NodeState) : st.isFalling = (st == .stopping || st == .discharging) := by cases st <;> rfl
  simp only [isCriticalLoss, falling]

theorem releasedSet_sorted (cfg : WorkingConfig) (b : Board) (i : Slot) : (releasedSet cfg b i).Pairwise (· < ·) :=
  (reach_sorted cfg 20 _ (slots_sorted.filter _)).filter _

theorem mem_releasedSet (cfg : WorkingConfig) (b : Board) (i d : Slot) : d ∈ releasedSet cfg b i ↔
    Relation.TransGen cfg.lists d i ∧ b.stateOf d ≠ .off ∧ (b.stateOf d).isFaulted = false := by
  have down (st : NodeState) : st.isDown = false ↔ st ≠ .off ∧ st.isFaulted = false := by
    cases st <;> simp [NodeState.isDown, NodeState.isFaulted]
  rw [releasedSet, List.mem_filter, mem_below, Bool.not_eq_true', down]

/-- A release of a node whose output is on (R73). -/
theorem release_of_up (hr : e.cfg.node i = some r) (ending : Ending) :
    let t := (fall e b i).updNode i (·.releasedWith ending)
    t.stateOf i = fallState r ∧ (t.node i).deadline = some ⟨.discharge, e.now + r.discharge⟩
    ∧ (t.node i).forced = true ∧ (t.node i).ending = ending ∧ (t.node i).failure = false
    ∧ t.outs.get r.output = .driven (flipLevel r.polarity)
    ∧ t.inUse = (if b.stateOf i = .ramping then b.inUse - (b.node i).charge else b.inUse)
    ∧ (∀ j, j ≠ i → t.node j = b.node j) ∧ t = { b with nodes := t.nodes, outs := t.outs, inUse := t.inUse } := by
  intro t
  have node : t.node i = ((b.node i).withState (fallState r)
      (some ⟨.discharge, e.now + r.discharge⟩)).releasedWith ending := by
    rw [← node_fall hr]
    exact node_updNode_self ..
  refine ⟨congrArg Node.state node, congrArg Node.deadline node, congrArg Node.forced node, congrArg Node.ending node,
    congrArg Node.failure node, outs_fall hr, inUse_fall hr, (onlySlot_fall e b i).trans (onlySlot_updNode _ _ _),
    (onlySlots_fall e b i).trans (onlySlots_updNode _ _ _)⟩

end

end Sys2Proof.Machine
end

section
/-! SETTLEMENT. Faults and their consequences. -/

namespace Sys2Proof.Machine

/-- Settles O29: the fault, the report, the released set, the cascade, the release. -/
theorem faultConsequences : Obligations.FaultConsequences := by
  unfold Obligations.FaultConsequences
  refine ⟨fun e b i k loss => ?_, fun cfg b i => ⟨releasedSet_sorted cfg b i, mem_releasedSet cfg b i⟩,
    fun e b released c => rfl, fun e b i r ending c hr => ?_⟩
  · intro released critical upward c
    have hc : consequenceOf b (isCriticalLoss e.cfg b i released) = c := by
      rw [consequenceOf_eq, isCriticalLoss_eq]
      rfl
    refine ⟨takeFault_eq e b i k loss released c rfl hc, fun c' => ⟨stateOf_reportFault_self e b i k c',
      onlySlot_reportFault e b i k c', ?_, recordFault_eq b i k c', rfl⟩⟩
    rw [← transitionKind_eq]
    rfl
  · intro t
    have up (ht : t = (fall e b i).updNode i (·.releasedWith ending)) := ht ▸ release_of_up (b := b) hr ending
    cases hs : b.stateOf i with
    | off => show release e b i ending c = b; unfold release; rw [hs]
    | faulted k => show release e b i ending c = b; unfold release; rw [hs]
    | queued => show release e b i ending c = _; unfold release; rw [hs]; rfl
    | stopping => show release e b i ending c = _; unfold release; rw [hs]; rfl
    | discharging => show release e b i ending c = _; unfold release; rw [hs]; rfl
    | ramping =>
      have turn := up (by show release e b i ending c = _; unfold release; rw [hs])
      rw [hs] at turn
      exact turn
    | settling =>
      have turn := up (by show release e b i ending c = _; unfold release; rw [hs])
      rw [hs] at turn
      exact turn
    | good =>
      have turn := up (by show release e b i ending c = _; unfold release; rw [hs])
      rw [hs] at turn
      exact turn
    | pending on =>
      cases on with
      | false => show release e b i ending c = _; unfold release; rw [hs]; rfl
      | true =>
        have turn := up (by show release e b i ending c = _; unfold release; rw [hs])
        rw [hs] at turn
        exact turn

end Sys2Proof.Machine
end

section
/-! SUPPORT. The begin of an emergency off slot by slot. -/

namespace Sys2Proof.Machine

section
variable {e : Env} {b : Board}

/-- What a release with ending OFF does to a slot, given what its fall does. -/
def Node.releasedOff (n fallen : Node) : Node :=
  match n.state with
  | .off | .faulted _ => n
  | .queued | .pending false => n.withState .off none
  | .pending true | .ramping | .settling | .good => fallen.releasedWith .off
  | .stopping | .discharging => n.releasedWith .off

theorem node_fall_eq (e : Env) (b : Board) (i : Slot) : (fall e b i).node i = match e.cfg.node i with
    | none => b.node i
    | some r => (b.node i).withState (fallState r) (some ⟨.discharge, e.now + r.discharge⟩) := by
  cases hr : e.cfg.node i with
  | none => unfold fall; rw [hr]
  | some r => exact node_fall hr

theorem node_release_off (e : Env) (b : Board) (i : Slot) (c : Consequence) :
    (release e b i .off c).node i = (b.node i).releasedOff ((fall e b i).node i) := by
  unfold release Node.releasedOff Board.stateOf
  cases (b.node i).state with
  | off => rfl
  | faulted k => rfl
  | queued => exact node_enter_self ..
  | pending on => cases on with
    | false => exact node_enter_self ..
    | true => exact node_updNode_self (fall e b i) i (·.releasedWith .off)
  | ramping => exact node_updNode_self (fall e b i) i (·.releasedWith .off)
  | settling => exact node_updNode_self (fall e b i) i (·.releasedWith .off)
  | good => exact node_updNode_self (fall e b i) i (·.releasedWith .off)
  | stopping => exact node_updNode_self b i (·.releasedWith .off)
  | discharging => exact node_updNode_self b i (·.releasedWith .off)

theorem node_drainFields (e : Env) (b : Board) (cause : Cause) (fault : Option (Slot × FaultKind)) (i : Slot) :
    (drainFields e b cause fault).node i = b.node i := rfl

/-- A slot after the begin of an emergency off. -/
theorem node_emergencyOff (e : Env) (b : Board) (cause : Cause) (fault : Option (Slot × FaultKind)) (i : Slot) :
    (emergencyOff e b cause fault).node i = ((b.node i).releasedOff ((fall e b i).node i)).clearPlan := by
  have released : (releaseAll e b).node i = (b.node i).releasedOff ((fall e b i).node i) := by
    rw [node_fall_eq]
    refine forSlots_node _ (fun i n => n.releasedOff (match e.cfg.node i with
      | none => n
      | some r => n.withState (fallState r) (some ⟨.discharge, e.now + r.discharge⟩))) (fun c j => ?_)
      (fun c j => onlySlot_release e c j .off .emergency) b i
    rw [node_release_off, node_fall_eq]
  rw [← released, emergencyOff_eq, node_drainFields]
  exact node_map (releaseAll e b) Node.clearPlan i

/-- The rest of the board after the begin of an emergency off. -/
theorem emergencyOff_fields (e : Env) (b : Board) (cause : Cause) (fault : Option (Slot × FaultKind)) :
    ∃ nodes outs inUse, emergencyOff e b cause fault
      = drainFields e { b with nodes := nodes, outs := outs, inUse := inUse } cause fault := by
  obtain ⟨nodes, outs, inUse, frame⟩ := (show OnlySlots b (releaseAll e b) from onlySlots_releaseAll e b).exists
  refine ⟨nodes.map Node.clearPlan, outs, inUse, ?_⟩
  rw [emergencyOff_eq, frame]

end

end Sys2Proof.Machine
end

section
/-! SETTLEMENT. The begin of an emergency off. -/

namespace Sys2Proof.Machine

/-- The record an emergency off keeps or opens, in the words of R23 and R154. -/
theorem emergencyRecord_eq (b : Board) (fault : Option (Slot × FaultKind)) : emergencyRecord b fault = match b.record with
    | none => ⟨if b.platform = .working then .down else if b.platform = .off then .relevel else .drop, b.platform, .off,
        none, none, none, none, fault, none, [], 0⟩
    | some r => { r with
        wake := if r.kind = .dozeIn ∨ r.kind = .down ∨ r.kind = .drop then none else r.wake
        fault := if fault.isSome then fault else r.fault } := by
  unfold emergencyRecord
  cases b.record with
  | none => cases b.platform <;> rfl
  | some r => simp only [isDownward_iff]

/-- Settles O30: the fields of the engine, then the release of each slot. -/
theorem emergencyOffTakesEverythingDown : Obligations.EmergencyOffTakesEverythingDown := by
  unfold Obligations.EmergencyOffTakesEverythingDown
  intro e b cause fault
  have node := node_emergencyOff e b cause fault
  obtain ⟨nodes, outs, inUse, fields⟩ := emergencyOff_fields e b cause fault
  rw [fields] at node ⊢
  intro t
  refine ⟨rfl, rfl, rfl, rfl, rfl, rfl, rfl, rfl, rfl, rfl, rfl, rfl, rfl, rfl, rfl, rfl, rfl, rfl, rfl, rfl, rfl,
    congrArg some (emergencyRecord_eq b fault), ?_⟩
  intro i r hr
  have slot : t.node i = ((b.node i).releasedOff ((b.node i).withState (fallState r)
      (some ⟨.discharge, e.now + r.discharge⟩))).clearPlan := by rw [← node_fall hr]; exact node i
  unfold Board.stateOf
  rw [slot]
  clear_value t
  generalize b.node i = n
  unfold Node.releasedOff
  cases hs : n.state with
  | off => exact hs
  | faulted k => exact hs
  | queued => rfl
  | pending on => cases on with
    | false => rfl
    | true => exact ⟨rfl, rfl, rfl, rfl, rfl⟩
  | stopping => exact ⟨hs, rfl, rfl, rfl, rfl⟩
  | discharging => exact ⟨hs, rfl, rfl, rfl, rfl⟩
  | _ => exact ⟨rfl, rfl, rfl, rfl, rfl⟩

end Sys2Proof.Machine
end

section
/-! SETTLEMENT. The end of an emergency off. -/

namespace Sys2Proof.Machine

section
variable {e : Env} {b : Board} {r : Record}

/-- The record the end of an emergency off closes (R156). -/
def drained (e : Env) (b : Board) (r : Record) : Record := { r with
  reached := some .off, outcome := some .emergency, cause := b.cause, duration := min 65535 (e.now - b.startedAt) }

/-- The end of an emergency off, with the lockout it sets, if any. -/
theorem endEmergency_of_record (hr : b.record = some r) : endEmergency e b =
    { closeTransition b (drained e b r) with
      platform := .off, cause := none, thermalMark := false
      lockout := if b.thermalMark then .thermal
        else if b.counter = 3 ∧ b.lockout ≠ .thermal then .resume else b.lockout
      wakes := if b.thermalMark || decide (b.counter = 3 ∧ b.lockout ≠ .thermal) then [] else b.wakes
      acRestore := !(b.thermalMark || decide (b.counter = 3 ∧ b.lockout ≠ .thermal))
        && (b.acRestore || (b.cause == some .acfail && e.cfg.settings.acPolicy == .powerOn)) } := by
  unfold endEmergency lockoutAtEnd
  rw [hr]
  cases b.thermalMark with
  | true => rfl
  | false =>
    by_cases locks : b.counter = 3 ∧ b.lockout ≠ .thermal
    · simp only [if_pos locks, decide_eq_true locks]
      rfl
    · simp only [if_neg locks, decide_eq_false locks]
      rfl

theorem allDown_iff (b : Board) : b.allStates NodeState.isDown = true ↔ ∀ i, (b.stateOf i).isDown = true :=
  slots_all_iff fun i => (b.stateOf i).isDown

end

/-- Settles O31: the record, the lockout, the AC restore mark, and when the end comes. -/
theorem emergencyOffEnds : Obligations.EmergencyOffEnds := by
  unfold Obligations.EmergencyOffEnds
  intro e b r hr
  have final : b.phase = .draining → (engineStep e b = some (endEmergency e b) ↔ ∀ i, (b.stateOf i).isDown = true) := by
    intro phase
    rw [← allDown_iff, engineStep]
    simp only [phase]
    cases b.allStates NodeState.isDown <;> simp
  rw [endEmergency_of_record hr] at final ⊢
  intro t done locks
  exact ⟨rfl, rfl, rfl, rfl, rfl, rfl, rfl, rfl, rfl, rfl, rfl, rfl, rfl, rfl,
    fun i => show ((returnToIdle b).node i).state = _ by rw [node_returnToIdle]; rfl, final⟩

end Sys2Proof.Machine
end

section
/-! SUPPORT. Wake lines: a qualifier written, an arrival handed over, the arms of the line commands. -/

namespace Sys2Proof.Machine

section
variable {s : State} {l : WakeLine}

/-- A write of the value that is there changes nothing. -/
theorem set_get {α : Type} {n : Nat} (v : Vector α n) (i : Fin n) : v.set i.val (v.get i) i.isLt = v := by
  simp [Vector.get_eq_getElem]

theorem setQual_self (s : State) (l : WakeLine) : s.setQual l (s.qual l) = s := by
  simp only [State.setQual, State.qual, set_get]

theorem setWake_self (s : State) (l : WakeLine) : s.setWake l (s.pins.wk.get l) = s := by
  simp only [State.setWake, set_get]

/-- The qualifier is written and its source arrives. -/
theorem qualify_arrives (s : State) (l : WakeLine) (q : Qualifier) : s.qualify l ⟨q, true⟩ =
    finish s { s.setQual l q with board := arrive s.env s.board (lineId l) } := rfl

theorem qualify_quiet (s : State) (l : WakeLine) (q : Qualifier) : s.qualify l ⟨q, false⟩ = s.setQual l q := rfl

theorem qualify_same (level : Level) : (s.setWake l level).qualify l ⟨s.qual l, false⟩ = s.setWake l level :=
  setQual_self (s.setWake l level) l

theorem exec_wakeLineChange (s : State) (l : WakeLine) (level : Level) :
    exec (.wakeLineChange l level) s = .next (afterWakeLineChange l level s) := rfl

theorem exec_wakeDebounceExpiry (s : State) (l : WakeLine) :
    exec (.wakeDebounceExpiry l) s = .next (afterWakeDebounceExpiry l s) := rfl

theorem exec_countWindowExpiry (s : State) (l : WakeLine) :
    exec (.countWindowExpiry l) s = .next (afterCountWindowExpiry l s) := rfl

theorem afterWakeLineChange_down (h : s.isUp = false) (level : Level) :
    afterWakeLineChange l level s = s.setWake l level := by
  unfold afterWakeLineChange
  exact if_pos (by rw [h]; rfl)

theorem afterWakeLineChange_same {level : Level} (h : s.pins.wk.get l = level) : afterWakeLineChange l level s = s := by
  unfold afterWakeLineChange
  subst h
  exact (if_pos (by simp)).trans (setWake_self s l)

theorem afterWakeLineChange_moved {level : Level} (up : s.isUp = true) (h : s.pins.wk.get l ≠ level) :
    afterWakeLineChange l level s = if level = (s.cfg.line l).mode.activeLevel
      then (s.setWake l level).qualify l (lineActive (s.cfg.line l) (s.qual l) s.now)
      else (s.setWake l level).qualify l ⟨lineInactive (s.cfg.line l) (s.qual l), false⟩ := by
  unfold afterWakeLineChange
  exact if_neg (by simp [up, h])

theorem timerDue_some (t now : Nat) : timerDue (some t) now = true ↔ t ≤ now := by simp [timerDue]

theorem afterWakeDebounceExpiry_of_debouncing {t : Nat} (hs : (s.qual l).state = .debouncing)
    (ht : (s.qual l).debounce = some t) : afterWakeDebounceExpiry l s =
      if t ≤ s.now then s.qualify l (debounceEnds (s.cfg.line l) (s.qual l) s.now) else s := by
  unfold afterWakeDebounceExpiry
  dsimp only
  rw [ht]
  exact if_congr ((and_iff_right hs).trans (timerDue_some t s.now)) rfl rfl

theorem afterCountWindowExpiry_of_window {t : Nat} (ht : (s.qual l).window = some t) :
    afterCountWindowExpiry l s = if t ≤ s.now then s.setQual l (windowEnds (s.qual l)) else s := by
  unfold afterCountWindowExpiry
  dsimp only
  rw [ht]
  exact if_congr (timerDue_some t s.now) rfl rfl

/-- Where a conditional stands inside an outcome. -/
theorem next_ite (c : Prop) [Decidable c] (s t : State) : (Host.Outcome.next (if c then s else t) :
    Host.Outcome State Fault Refusal) = if c then .next s else .next t := apply_ite _ _ _ _

/-- A counted edge (R113). -/
theorem qualify_countEdge (s : State) (l : WakeLine) (r : LineRecord) (q : Qualifier) (now : Nat) :
    s.qualify l (countEdge r q now) = if r.edgeCount ≤ q.tally + 1
      then finish s { s.setQual l ⟨.idle, none, 0, none⟩ with board := arrive s.env s.board (lineId l) }
      else s.setQual l ⟨.counting, none, q.tally + 1, if q.tally = 0 then some (now + r.window) else q.window⟩ := by
  unfold countEdge
  split <;> rfl

/-- An edge to the active level starts the debounce, or ends it at once (R112, R113). -/
theorem lineActive_of_waiting (r : LineRecord) {q : Qualifier} (h : q.state = .idle ∨ q.state = .counting) (now : Nat) :
    lineActive r q now = if r.debounce = 0 then debounceEnds r q now
      else ⟨{ q with state := .debouncing, debounce := some (now + r.debounce) }, false⟩ := by
  unfold lineActive
  rcases h with h | h <;> rw [h] <;> rfl

theorem lineActive_of_taken (r : LineRecord) {q : Qualifier} (h : q.state = .debouncing ∨ q.state = .active) (now : Nat) :
    lineActive r q now = ⟨q, false⟩ := by
  unfold lineActive
  rcases h with h | h <;> rw [h]

theorem lineInactive_of_debouncing (r : LineRecord) {q : Qualifier} (h : q.state = .debouncing) : lineInactive r q =
    { q with state := if r.mode.isLevel ∨ q.tally = 0 then .idle else .counting, debounce := none } := by
  unfold lineInactive; rw [h]

theorem lineInactive_of_active (r : LineRecord) {q : Qualifier} (h : q.state = .active) :
    lineInactive r q = { q with state := .idle } := by
  unfold lineInactive; rw [h]

theorem lineInactive_of_waiting (r : LineRecord) {q : Qualifier} (h : q.state = .idle ∨ q.state = .counting) :
    lineInactive r q = q := by
  unfold lineInactive
  rcases h with h | h <;> rw [h]

theorem debounceEnds_of_level {r : LineRecord} (h : r.mode.isLevel = true) (q : Qualifier) (now : Nat) :
    debounceEnds r q now = ⟨{ q with state := .active, debounce := none }, true⟩ := if_pos h

theorem debounceEnds_of_edge {r : LineRecord} (h : r.mode.isLevel = false) (q : Qualifier) (now : Nat) :
    debounceEnds r q now = countEdge r q now := if_neg (by rw [h]; exact Bool.false_ne_true)

/-- What follows when a line that waits takes its active level. -/
theorem next_qualify_waiting (s : State) (l : WakeLine) (r : LineRecord) {q : Qualifier}
    (h : q.state = .idle ∨ q.state = .counting) (now : Nat) :
    (Host.Outcome.next (s.qualify l (lineActive r q now)) : Host.Outcome State Fault Refusal) =
      if r.debounce = 0 then .next (s.qualify l (debounceEnds r q now))
      else .next (s.setQual l { q with state := .debouncing, debounce := some (now + r.debounce) }) := by
  rw [lineActive_of_waiting r h, apply_ite (s.qualify l), next_ite, qualify_quiet]

end

end Sys2Proof.Machine
end

section
/-! SETTLEMENT. Wake lines. -/

namespace Sys2Proof.Machine

/-- Settles O32: the pin before the load event, the two edges by the qualifier's state, the debounce. -/
theorem levelLinesQualify : Obligations.LevelLinesQualify := by
  unfold Obligations.LevelLinesQualify
  intro s l r q
  refine ⟨fun down level => ?_, fun up mode => ⟨fun level same => ?_, fun level moves => ?_, fun t hs ht => ?_⟩⟩
  · rw [exec_wakeLineChange, afterWakeLineChange_down down]
  · rw [exec_wakeLineChange, afterWakeLineChange_same same]
  · have level' : r.mode.isLevel = true := by rcases mode with h | h <;> rw [h] <;> rfl
    have active : r.mode.activeLevel = if r.mode = .levelHigh then .high else .low := by
      rcases mode with h | h <;> rw [h] <;> rfl
    rw [exec_wakeLineChange, afterWakeLineChange_moved up moves, next_ite]
    refine if_congr (by rw [← active]) ?_ ?_
    · cases hq : q.state with
      | idle => exact (next_qualify_waiting _ l r (.inl hq) s.now).trans (by rw [debounceEnds_of_level level']; rfl)
      | counting => exact (next_qualify_waiting _ l r (.inr hq) s.now).trans (by rw [debounceEnds_of_level level']; rfl)
      | debouncing => rw [lineActive_of_taken _ (.inl hq), qualify_same]
      | active => rw [lineActive_of_taken _ (.inr hq), qualify_same]
    · cases hq : q.state with
      | idle => rw [lineInactive_of_waiting _ (.inl hq), qualify_same]
      | counting => rw [lineInactive_of_waiting _ (.inr hq), qualify_same]
      | debouncing =>
        rw [lineInactive_of_debouncing _ hq, if_pos (.inl level')]
        rfl
      | active => rw [lineInactive_of_active _ hq, qualify_quiet]
  · have level' : r.mode.isLevel = true := by rcases mode with h | h <;> rw [h] <;> rfl
    rw [exec_wakeDebounceExpiry, afterWakeDebounceExpiry_of_debouncing hs ht, next_ite, debounceEnds_of_level level',
      qualify_arrives]

/-- Settles O33: the two edges by the state of the qualifier, the debounce, the window. -/
theorem edgeLinesCount : Obligations.EdgeLinesCount := by
  unfold Obligations.EdgeLinesCount
  intro s l r q up mode counted
  have edge : r.mode.isLevel = false := by rcases mode with h | h <;> rw [h] <;> rfl
  have active : r.mode.activeLevel = if r.mode = .rising then .high else .low := by
    rcases mode with h | h <;> rw [h] <;> rfl
  refine ⟨fun level same => ?_, fun level moves => ?_, fun t hs ht => ?_, fun t ht => ?_⟩
  · rw [exec_wakeLineChange, afterWakeLineChange_same same]
  · rw [exec_wakeLineChange, afterWakeLineChange_moved up moves, next_ite]
    have count : (Host.Outcome.next ((s.setWake l level).qualify l (debounceEnds r q s.now)) :
        Host.Outcome State Fault Refusal) = counted (s.setWake l level) := by
      rw [debounceEnds_of_edge edge, qualify_countEdge, next_ite]
      rfl
    refine if_congr (by rw [← active]) ?_ ?_
    · cases hq : q.state with
      | idle => exact (next_qualify_waiting _ l r (.inl hq) s.now).trans (by rw [count])
      | counting => exact (next_qualify_waiting _ l r (.inr hq) s.now).trans (by rw [count])
      | debouncing => rw [lineActive_of_taken _ (.inl hq), qualify_same]
      | active => rw [lineActive_of_taken _ (.inr hq), qualify_same]
    · cases hq : q.state with
      | idle => rw [lineInactive_of_waiting _ (.inl hq), qualify_same]
      | counting => rw [lineInactive_of_waiting _ (.inr hq), qualify_same]
      | debouncing =>
        have kept : ((s.cfg.line l).mode.isLevel = true ∨ (s.qual l).tally = 0) ↔ q.tally = 0 :=
          or_iff_right (by rw [edge]; exact Bool.false_ne_true)
        rw [lineInactive_of_debouncing _ hq, if_congr kept rfl rfl]
        rfl
      | active => rw [lineInactive_of_active _ hq, qualify_quiet]
  · rw [exec_wakeDebounceExpiry, afterWakeDebounceExpiry_of_debouncing hs ht, debounceEnds_of_edge edge,
      qualify_countEdge, next_ite, next_ite]
  · rw [exec_countWindowExpiry, afterCountWindowExpiry_of_window ht, next_ite]
    rfl

end Sys2Proof.Machine
end

section
/-! SUPPORT. SOURCE_PUT: the codes, the records a payload holds, the clamps, and what the put leaves. -/

namespace Sys2Proof.Machine

section
variable {s : State} {p : SourcePayload}

/-! ### Codes -/

theorem policyOf_of_le {b : Byte} (h : b.toNat ≤ 1) : policyOf b = some (if b = 0 then .reverse else .defer) := by
  have cases : b = 0 ∨ b = 1 := by bv_omega
  rcases cases with rfl | rfl <;> rfl

theorem policyOf_of_lt {b : Byte} (h : 1 < b.toNat) : policyOf b = none := by
  unfold policyOf
  split
  · omega
  · omega
  · rfl

theorem armedOf_of_le {b : Byte} (h : b.toNat ≤ 7) : armedOf b = some ⟨b.getLsbD 0, b.getLsbD 1, b.getLsbD 2⟩ :=
  if_pos (by omega)

theorem armedOf_of_lt {b : Byte} (h : 7 < b.toNat) : armedOf b = none := if_neg (by omega)

theorem wakeModeOf_of_le {b : Byte} (h : b.toNat ≤ 3) : wakeModeOf b = some (if b = 0 then .levelHigh
    else if b = 1 then .levelLow else if b = 2 then .rising else .falling) := by
  have cases : b = 0 ∨ b = 1 ∨ b = 2 ∨ b = 3 := by bv_omega
  rcases cases with rfl | rfl | rfl | rfl <;> rfl

theorem wakeModeOf_of_lt {b : Byte} (h : 3 < b.toNat) : wakeModeOf b = none := by
  unfold wakeModeOf
  split
  · omega
  · omega
  · omega
  · omega
  · rfl

/-! ### The put of each source -/

theorem putSource_line {id : SourceId} (h : id.val < 8) : putSource s id p =
    (lineOfPayload p).map (fun r => (s.putLine ⟨id.val, h⟩ (clampLine r), clampLine r != r)) := dif_pos h

theorem putSource_button : putSource s 8 p =
    (buttonOfPayload p).map (fun r => ({ s with cfg := { s.cfg with button := clampButton r } }, clampButton r != r)) :=
  rfl

theorem putSource_link : putSource s 9 p =
    (linkOfPayload p).map (fun r => ({ s with cfg := { s.cfg with link := clampLink r } }, clampLink r != r)) := rfl

/-- A payload with a held value outside its list leaves no record (R127). -/
theorem putSource_none {id : SourceId} (hid : p.id.toNat = id.val) (h : 1 < p.policy.toNat
    ∨ (p.id ≠ 8 ∧ 7 < p.armed.toNat) ∨ (p.id.toNat < 8 ∧ 3 < p.mode.toNat)) : putSource s id p = none := by
  have sources : id.val < 8 ∨ id.val = 8 ∨ id.val = 9 := by have := id.isLt; omega
  rcases sources with line | button | link
  · rw [putSource_line line]
    refine Option.map_eq_none_iff.mpr ?_
    unfold lineOfPayload
    rcases h with h | ⟨_, h⟩ | ⟨_, h⟩
    · rw [policyOf_of_lt h]
      cases wakeModeOf p.mode <;> cases armedOf p.armed <;> rfl
    · rw [armedOf_of_lt h]
      cases wakeModeOf p.mode <;> rfl
    · rw [wakeModeOf_of_lt h]
  · obtain rfl : id = 8 := Fin.ext button
    have button : p.id = 8 := BitVec.eq_of_toNat_eq hid
    have h : 1 < p.policy.toNat := by
      rcases h with h | ⟨h, _⟩ | ⟨h, _⟩
      · exact h
      · exact absurd button h
      · omega
    rw [putSource_button, buttonOfPayload, policyOf_of_lt h]
    rfl
  · obtain rfl : id = 9 := Fin.ext link
    rw [putSource_link]
    refine Option.map_eq_none_iff.mpr ?_
    unfold linkOfPayload
    rcases h with h | ⟨_, h⟩ | ⟨h, _⟩
    · rw [policyOf_of_lt h]
      cases armedOf p.armed <;> rfl
    · rw [armedOf_of_lt h]
    · omega

/-! ### The answer -/

theorem sourcePut_refused (ready : s.isReady) {st : Status} (h : sourcePutAnswer p s = .refuse s st) :
    exec (.sourcePut p) s = .next (s.withReply 11 (refusal 0x19 st.code)) :=
  congrArg Host.Outcome.next
    (request_refused ready 0x19 (sourcePayloadBytes p) (show 9 ≤ 32 by decide) (sourcePutAnswer p) st h)

theorem sourcePut_busy (h : (s.board.phase.inTransition || s.store.saving.isSome) = true) :
    sourcePutAnswer p s = .refuse s .busy := if_pos h

theorem sourcePutAnswer_eq (h : (s.board.phase.inTransition || s.store.saving.isSome) = false) : sourcePutAnswer p s =
    match (finOf 10 p.id).bind (fun id => putSource s id p) with
    | none => .refuse s .range
    | some (s1, clamped) => .starts s1 (if clamped then .clamped else .ok) :=
  if_neg (by rw [State.isSaving, h]; exact Bool.false_ne_true)

/-- A put that is taken: its status, and then what it arms. -/
theorem sourcePut_taken (ready : s.isReady) (idle : (s.board.phase.inTransition || s.store.saving.isSome) = false)
    {id : SourceId} {t : State} {clamped : Bool} (hid : p.id.toNat = id.val) (h : putSource s id p = some (t, clamped)) :
    exec (.sourcePut p) s = .next (finish s (t.withReply 11 [0x99, 1, if clamped then 0x02 else 0x00])) := by
  have answer : sourcePutAnswer p s = .starts t (if clamped then .clamped else .ok) := by
    rw [sourcePutAnswer_eq idle, finOf_of_eq hid, Option.bind_some, h]
  refine (congrArg Host.Outcome.next (request_started ready 0x19 (sourcePayloadBytes p) (show 9 ≤ 32 by decide)
    (sourcePutAnswer p) _ _ answer)).trans ?_
  cases clamped <;> rfl

/-! ### The records and their clamps -/

theorem clamp_priority (n : Nat) : clamp 0 7 n = min 7 n := Nat.zero_max _

/-- Whether a clamp of the priority alone has changed a record. -/
theorem clampButton_bne (n : Nat) (q : Policy) :
    (clampButton ⟨n, q⟩ != ⟨n, q⟩) = decide (7 < n) := by
  rw [Bool.eq_iff_iff, bne_iff_ne, decide_eq_true_eq, clampButton, clamp_priority, ne_eq, ButtonRecord.mk.injEq]
  simp

theorem clampLink_bne (a : Armed) (n : Nat) (q : Policy) : (clampLink ⟨a, n, q⟩ != ⟨a, n, q⟩) = decide (7 < n) := by
  rw [Bool.eq_iff_iff, bne_iff_ne, decide_eq_true_eq, clampLink, clamp_priority, ne_eq, LinkRecord.mk.injEq]
  simp

theorem putSource_button_eq (hp : p.policy.toNat ≤ 1) : putSource s 8 p = some
    ({ s with cfg := { s.cfg with button := ⟨min 7 p.priority.toNat, if p.policy = 0 then .reverse else .defer⟩ } },
      decide (7 < p.priority.toNat)) := by
  rw [putSource_button, buttonOfPayload, policyOf_of_le hp, Option.map_some, Option.map_some, clampButton_bne,
    clampButton, clamp_priority]

theorem putSource_link_eq (hp : p.policy.toNat ≤ 1) (ha : p.armed.toNat ≤ 7) : putSource s 9 p = some
    ({ s with cfg := { s.cfg with link := ⟨⟨p.armed.getLsbD 0, p.armed.getLsbD 1, p.armed.getLsbD 2⟩,
        min 7 p.priority.toNat, if p.policy = 0 then .reverse else .defer⟩ } },
      decide (7 < p.priority.toNat)) := by
  rw [putSource_link, linkOfPayload, policyOf_of_le hp, armedOf_of_le ha]
  dsimp only
  rw [Option.map_some, clampLink_bne, clampLink, clamp_priority]

/-- The line record of a payload as sent. -/
def sentLine (p : SourcePayload) : LineRecord :=
  ⟨if p.mode = 0 then .levelHigh else if p.mode = 1 then .levelLow else if p.mode = 2 then .rising else .falling,
    p.debounce.toNat, p.edgeCount.toNat, p.window.toNat, ⟨p.armed.getLsbD 0, p.armed.getLsbD 1, p.armed.getLsbD 2⟩,
    p.priority.toNat, if p.policy = 0 then .reverse else .defer⟩

theorem lineOfPayload_eq (hp : p.policy.toNat ≤ 1) (ha : p.armed.toNat ≤ 7) (hm : p.mode.toNat ≤ 3) :
    lineOfPayload p = some (sentLine p) := by
  rw [lineOfPayload, policyOf_of_le hp, armedOf_of_le ha, wakeModeOf_of_le hm]
  rfl

theorem clampLine_sent (p : SourcePayload) : clampLine (sentLine p) = { sentLine p with
    edgeCount := max 1 (min 15 p.edgeCount.toNat), window := max 1 (min 2000 p.window.toNat)
    priority := min 7 p.priority.toNat } := by
  have debounce : clamp 0 255 p.debounce.toNat = p.debounce.toNat := by
    have := p.debounce.isLt
    unfold clamp
    omega
  simp only [clampLine, sentLine, debounce, clamp_priority]
  rfl

theorem clampLine_bne (r : LineRecord) (h : (clampLine r).debounce = r.debounce) : (clampLine r != r) = decide
    ((clampLine r).edgeCount ≠ r.edgeCount ∨ (clampLine r).window ≠ r.window ∨ (clampLine r).priority ≠ r.priority) := by
  obtain ⟨mode, debounce, edgeCount, window, armed, priority, policy⟩ := r
  rw [Bool.eq_iff_iff, bne_iff_ne, decide_eq_true_eq, ne_eq]
  unfold clampLine at h ⊢
  simp only [LineRecord.mk.injEq]
  simp only at h
  tauto

theorem requalifies_eq (old new : LineRecord) : requalifies old new = decide (new.mode ≠ old.mode
    ∨ new.debounce ≠ old.debounce ∨ new.edgeCount ≠ old.edgeCount ∨ new.window ≠ old.window) := by
  rw [Bool.eq_iff_iff, decide_eq_true_eq, requalifies]
  simp only [Bool.not_eq_true', Bool.and_eq_false_iff, beq_eq_false_iff_ne, or_assoc]
  exact or_congr ne_comm (or_congr ne_comm (or_congr ne_comm ne_comm))

/-- A fresh qualifier (R111, R128). -/
theorem freshQualifier_eq (r : LineRecord) (level : Level) (now : Nat) : freshQualifier r level now =
    if (r.mode = .levelHigh ∧ level = .high) ∨ (r.mode = .levelLow ∧ level = .low)
    then ⟨.debouncing, some (now + r.debounce), 0, none⟩ else ⟨.idle, none, 0, none⟩ := by
  unfold freshQualifier
  cases r.mode <;> cases level <;> rfl

/-- A line's record is replaced, its qualifier written in any case. -/
theorem putLine_eq (s : State) (l : WakeLine) (r : LineRecord) : s.putLine l r =
    { s.setQual l (if requalifies (s.cfg.line l) r then freshQualifier r (s.pins.wk.get l) s.now else s.qual l) with
      cfg := { s.cfg with lines := s.cfg.lines.set l.val r l.isLt } } := by
  unfold State.putLine
  split
  · rfl
  · rw [setQual_self]

end

end Sys2Proof.Machine
end

section
/-! SETTLEMENT. SOURCE_PUT. -/

namespace Sys2Proof.Machine

/-- Settles O34: the two refusals, BUTTON, LINK, and a line. -/
theorem sourcePutReplacesTheRecord : Obligations.SourcePutReplacesTheRecord := by
  unfold Obligations.SourcePutReplacesTheRecord
  intro s p ready
  refine ⟨fun busy => ?_, fun idle h => ?_, fun idle hid hp => ?_, fun idle hid hp ha => ?_,
    fun l idle hid hp ha hm => ?_⟩
  · exact sourcePut_refused (st := .busy) ready (sourcePut_busy busy)
  · refine sourcePut_refused (st := .range) ready ?_
    rw [sourcePutAnswer_eq idle]
    by_cases hid : 9 < p.id.toNat
    · rw [finOf_of_le (by omega)]
      rfl
    · have hid : p.id.toNat < 10 := by omega
      rw [finOf_of_eq (i := ⟨p.id.toNat, hid⟩) rfl, Option.bind_some, putSource_none rfl (h.resolve_left (by omega))]
  · exact sourcePut_taken ready idle (id := 8) (by rw [hid]; rfl) (putSource_button_eq hp)
  · exact sourcePut_taken ready idle (id := 9) (by rw [hid]; rfl) (putSource_link_eq hp ha)
  · have put := putSource_line (s := s) (p := p) (id := lineId l) l.isLt
    rw [lineOfPayload_eq hp ha hm, Option.map_some] at put
    refine (sourcePut_taken ready idle (id := lineId l) hid put).trans ?_
    rw [clampLine_bne _ (by rw [clampLine_sent]), putLine_eq, clampLine_sent, requalifies_eq, freshQualifier_eq]
    rfl

end Sys2Proof.Machine
end

section
/-! SUPPORT. NODE_PUT: the checks as propositions, the payload's values, structural fields, clamps. -/

namespace Sys2Proof.Machine

/-! ### The checks of R41 -/

section
variable {cfg : WorkingConfig} {i : Slot}

theorem badRef_iff (cfg : WorkingConfig) (i : Slot) (rec : Option NodeRecord) : rec.any (badRef cfg i) = true ↔
    ∃ r, rec = some r ∧ ∃ q ∈ r.prereqs, q = i ∨ cfg.node q = none := by
  simp [Option.any_eq_true, badRef]

theorem bindClash_iff (r q : NodeRecord) : bindClash r q = true ↔ r.output = q.output
    ∨ (r.body.channel ≠ none ∧ r.body.channel = q.body.channel) ∨ (r.body.input ≠ none ∧ r.body.input = q.body.input) := by
  simp [bindClash, Option.isSome_iff_ne_none, or_assoc]

theorem clashes_iff (cfg : WorkingConfig) (i : Slot) (rec : Option NodeRecord) : rec.any (clashes cfg i) = true ↔
    ∃ r, rec = some r ∧ ∃ j, j ≠ i ∧ ∃ q, cfg.node j = some q ∧ (r.output = q.output
      ∨ (r.body.channel ≠ none ∧ r.body.channel = q.body.channel)
      ∨ (r.body.input ≠ none ∧ r.body.input = q.body.input)) := by
  rw [Option.any_eq_true]
  refine exists_congr fun r => and_congr_right fun _ => ?_
  rw [clashes, slots_any_iff]
  refine exists_congr fun j => ?_
  rw [Bool.and_eq_true, bne_iff_ne]
  refine and_congr_right fun _ => ?_
  cases cfg.node j with
  | none => simp
  | some q => simp [bindClash_iff]

theorem makesCycle_iff (cfg : WorkingConfig) (i : Slot) (rec : Option NodeRecord) :
    rec.any (makesCycle cfg i) = true ↔ ∃ r, rec = some r ∧ makesCycle cfg i r = true := Option.any_eq_true _ _

theorem isListed_iff (cfg : WorkingConfig) (i : Slot) (rec : Option NodeRecord) :
    (rec.isNone && isListed cfg i) = true ↔ rec = none ∧ ∃ j, j ≠ i ∧ i ∈ cfg.prereqs j := by
  rw [Bool.and_eq_true, Option.isNone_iff_eq_none]
  refine and_congr_right fun _ => ?_
  simp only [isListed, List.any_eq_true, mem_dependents, WorkingConfig.lists, bne_iff_ne]
  exact exists_congr fun j => and_comm

end

/-! ### Structural fields (R45) -/

theorem sameSet_iff (l m : List Slot) : sameSet l m = true ↔ ∀ x, x ∈ l ↔ x ∈ m := by
  simp only [sameSet, Bool.and_eq_true, List.all_eq_true, List.contains_iff_mem]
  exact ⟨fun h x => ⟨h.1 x, h.2 x⟩, fun h => ⟨fun x => (h x).1, fun x => (h x).2⟩⟩

theorem shape_eq_iff (x y : NodeBody) : x.shape = y.shape ↔ match x, y with
    | .rail (.analog c _ _ _) _ _ _, .rail (.analog d _ _ _) _ _ _ => c = d
    | .rail (.digital c m _ _) _ _ _, .rail (.digital d n _ _) _ _ _ => c = d ∧ m = n
    | .rail .timed _ _ _, .rail .timed _ _ _ => True
    | .signal, .signal => True
    | .handshake c m _, .handshake d n _ => c = d ∧ m = n
    | _, _ => False := by
  rcases x with ⟨_ | _ | _, _, _, _⟩ | _ | _ <;> rcases y with ⟨_ | _ | _, _, _, _⟩ | _ | _ <;>
    simp [NodeBody.shape]

theorem structuralChange_some (r q : NodeRecord) : structuralChange (some r) (some q) = true ↔
    ¬ (r.output = q.output ∧ r.polarity = q.polarity ∧ r.levels = q.levels ∧ (∀ x, x ∈ r.prereqs ↔ x ∈ q.prereqs)
      ∧ r.irreversible = q.irreversible ∧ r.body.shape = q.body.shape) := by
  rw [← sameSet_iff]
  simp only [structuralChange, Bool.not_eq_true', ← Bool.not_eq_true, Bool.and_eq_true, beq_iff_eq]
  tauto

/-! ### Clamps (R46) -/

theorem clampSource_eq (g : GoodSource) : clampSource g = match g with
    | .analog c w g b => .analog c (clampWindow w) (max 1 (min 15 g)) (max 1 (min 15 b))
    | .digital d pol g b => .digital d pol (max 1 (min 15 g)) (max 1 (min 15 b))
    | .timed => .timed := by cases g <;> rfl

theorem clamp_zero (hi n : Nat) : clamp 0 hi n = min hi n := Nat.zero_max _

theorem clampBody_eq (x : NodeBody) : clampBody x = match x with
    | .rail source priority weight retries => .rail
        (match source with
          | .analog c w g b => .analog c (clampWindow w) (max 1 (min 15 g)) (max 1 (min 15 b))
          | .digital d pol g b => .digital d pol (max 1 (min 15 g)) (max 1 (min 15 b))
          | .timed => .timed)
        (min 15 priority) (min 255 weight) (min 3 retries)
    | .signal => .signal
    | .handshake a pol g => .handshake a pol (max 1 (min 15 g)) := by
  cases x with
  | rail g p w n => simp only [clampBody, clampSource_eq, clamp_zero]
  | signal => rfl
  | handshake a pol g => rfl

/-! ### The payload -/

/-- The entries of the prerequisite bytes. -/
def prereqEntries (p : List Byte) : List Byte :=
  [byteAt p 8, byteAt p 9, byteAt p 10, byteAt p 11].filter (fun x => x ≠ 0xFF)

theorem finOf_eq_none_iff {n : Nat} {b : Byte} : finOf n b = none ↔ n ≤ b.toNat := by
  unfold finOf
  split
  · simp only [reduceCtorEq, false_iff]; omega
  · simp only [true_iff]; omega

theorem toNat_of_finOf {n : Nat} {b : Byte} {i : Fin n} (h : finOf n b = some i) : i.val = b.toNat := by
  unfold finOf at h
  split at h
  · rw [← Option.some.inj h]
  · cases h

/-- A list of bytes is read as slots unless one is above 19, and then the slots are the bytes. -/
theorem mapM_finOf_iff (l : List Byte) : (l.mapM (finOf 20) = none ↔ ∃ x ∈ l, 19 < x.toNat)
    ∧ ∀ m, l.mapM (finOf 20) = some m → m.map (fun q : Slot => byte1 q.val) = l := by
  induction l with
  | nil => simp
  | cons x l ih =>
    rw [List.mapM_cons]
    cases hx : finOf 20 x with
    | none =>
      have : 19 < x.toNat := finOf_eq_none_iff.mp hx
      simp [this]
    | some i =>
      have hi := toNat_of_finOf hx
      have small : ¬ 19 < x.toNat := by omega
      have back : byte1 i.val = x := BitVec.eq_of_toNat_eq (by rw [byte1_toNat (by omega), hi])
      cases hl : l.mapM (finOf 20) with
      | none => simpa [hl, small] using ih.1
      | some m =>
        refine ⟨by simpa [hl, small] using ih.1, fun k hk => ?_⟩
        obtain rfl : i :: m = k := Option.some.inj hk
        rw [List.map_cons, back, ih.2 m hl]

theorem byte1_slot_injective : Function.Injective (fun q : Slot => byte1 q.val) := by
  intro i j h
  have hi := i.isLt
  have hj := j.isLt
  have : (byte1 i.val).toNat = (byte1 j.val).toNat := congrArg BitVec.toNat h
  rw [byte1_toNat (by omega), byte1_toNat (by omega)] at this
  exact Fin.ext this

theorem parsePrereqs_cases (p : List Byte) :
    (parsePrereqs p = none ↔ (∃ x ∈ prereqEntries p, 19 < x.toNat) ∨ ¬ (prereqEntries p).Nodup)
    ∧ ∀ l, parsePrereqs p = some l → l.map (fun q : Slot => byte1 q.val) = prereqEntries p := by
  have read := mapM_finOf_iff (prereqEntries p)
  have unfolded : parsePrereqs p = match (prereqEntries p).mapM (finOf 20) with
      | none => none
      | some l => if l.Nodup then some l else none := rfl
  rw [unfolded]
  cases hm : (prereqEntries p).mapM (finOf 20) with
  | none => exact ⟨by simpa using .inl (read.1.mp hm), fun l h => by cases h⟩
  | some m =>
    have entries := read.2 m hm
    have small : ¬ ∃ x ∈ prereqEntries p, 19 < x.toNat := fun h => by rw [read.1.mpr h] at hm; cases hm
    have nodup : (prereqEntries p).Nodup ↔ m.Nodup := by
      rw [← entries]
      exact List.nodup_map_iff byte1_slot_injective
    by_cases hn : m.Nodup
    · simp only [hn, if_true, reduceCtorEq, false_iff, not_or, not_not, nodup]
      exact ⟨⟨small, trivial⟩, fun l h => by rw [← Option.some.inj h]; exact entries⟩
    · simp only [hn, if_false, true_iff, nodup]
      exact ⟨.inr not_false, fun l h => by cases h⟩

theorem parseGoodSource_eq_none_iff (p : List Byte) : parseGoodSource p = none ↔
    2 < (byteAt p 2).toNat ∨ ((byteAt p 2).toNat ≠ 2 ∧ 11 < (byteAt p 4).toNat) := by
  unfold parseGoodSource
  dsimp only
  split
  · rename_i h; rw [Option.map_eq_none_iff, finOf_eq_none_iff, h]; omega
  · rename_i h; rw [Option.map_eq_none_iff, finOf_eq_none_iff, h]; omega
  · rename_i h; rw [h]; simp
  · rename_i h0 h1 h2
    have : (byteAt p 2).toNat ≠ 0 ∧ (byteAt p 2).toNat ≠ 1 ∧ (byteAt p 2).toNat ≠ 2 := ⟨h0, h1, h2⟩
    simp only [true_iff]
    omega

theorem parseBody_eq_none_iff (p : List Byte) : parseBody p = none ↔ (byteAt p 1).toNat = 0 ∨ 3 < (byteAt p 1).toNat
    ∨ ((byteAt p 1).toNat = 1 ∧ (2 < (byteAt p 2).toNat ∨ ((byteAt p 2).toNat ≠ 2 ∧ 11 < (byteAt p 4).toNat)))
    ∨ ((byteAt p 1).toNat = 3 ∧ 11 < (byteAt p 4).toNat) := by
  unfold parseBody
  split
  · rename_i h; rw [Option.map_eq_none_iff, parseGoodSource_eq_none_iff, h]; omega
  · rename_i h; rw [h]; simp
  · rename_i h; rw [Option.map_eq_none_iff, finOf_eq_none_iff, h]; omega
  · rename_i h1 h2 h3
    have : (byteAt p 1).toNat ≠ 1 ∧ (byteAt p 1).toNat ≠ 2 ∧ (byteAt p 1).toNat ≠ 3 := ⟨h1, h2, h3⟩
    simp only [true_iff]
    omega

/-- What a body that is read holds. -/
theorem parseGoodSource_some {p : List Byte} {g : GoodSource} (h : parseGoodSource p = some g) : match (generalizing := false) g with
    | .analog c w good bad => (byteAt p 2).toNat = 0 ∧ c.val = (byteAt p 4).toNat ∧ good = (byteAt p 20).toNat % 16
        ∧ bad = (byteAt p 20).toNat / 16 ∧ w = parseWindow p
    | .digital d pol good bad => (byteAt p 2).toNat = 1 ∧ d.val = (byteAt p 4).toNat
        ∧ pol = levelOfBit ((byteAt p 5).getLsbD 1) ∧ good = (byteAt p 20).toNat % 16 ∧ bad = (byteAt p 20).toNat / 16
    | .timed => (byteAt p 2).toNat = 2 := by
  unfold parseGoodSource at h
  dsimp only at h
  split at h
  · rename_i code
    obtain ⟨c, hc, rfl⟩ := Option.map_eq_some_iff.mp h
    exact ⟨code, toNat_of_finOf hc, rfl, rfl, rfl⟩
  · rename_i code
    obtain ⟨c, hc, rfl⟩ := Option.map_eq_some_iff.mp h
    exact ⟨code, toNat_of_finOf hc, rfl, rfl, rfl⟩
  · rename_i code
    obtain rfl := Option.some.inj h
    exact code
  · cases h

theorem parseBody_some {p : List Byte} {x : NodeBody} (h : parseBody p = some x) : match (generalizing := false) x with
    | .rail source priority weight retries => (byteAt p 1).toNat = 1 ∧ priority = (byteAt p 12).toNat % 16
        ∧ retries = (byteAt p 12).toNat / 16 ∧ weight = (byteAt p 13).toNat ∧ parseGoodSource p = some source
    | .signal => (byteAt p 1).toNat = 2
    | .handshake a pol g => (byteAt p 1).toNat = 3 ∧ a.val = (byteAt p 4).toNat
        ∧ pol = levelOfBit ((byteAt p 5).getLsbD 1) ∧ g = (byteAt p 20).toNat % 16 := by
  unfold parseBody at h
  split at h
  · rename_i code
    obtain ⟨g, hg, rfl⟩ := Option.map_eq_some_iff.mp h
    exact ⟨code, rfl, rfl, rfl, hg⟩
  · rename_i code
    obtain rfl := Option.some.inj h
    exact code
  · rename_i code
    obtain ⟨c, hc, rfl⟩ := Option.map_eq_some_iff.mp h
    exact ⟨code, toNat_of_finOf hc, rfl, rfl⟩
  · cases h

/-- A record that is read: its flags bytes in range, and its parts. -/
theorem parseNode_eq (p : List Byte) : parseNode p =
    if (byteAt p 5).toNat < 4 ∧ (byteAt p 6).toNat < 16 ∧ (byteAt p 7).toNat < 4 then
      (parseBody p).bind fun body => (finOf 16 (byteAt p 3)).bind fun out => (parsePrereqs p).map fun pre =>
        { output := out
          polarity := levelOfBit ((byteAt p 5).getLsbD 0)
          levels := ⟨(byteAt p 6).getLsbD 0, (byteAt p 6).getLsbD 1, (byteAt p 6).getLsbD 2, (byteAt p 6).getLsbD 3⟩
          prereqs := pre
          severity := if (byteAt p 7).getLsbD 0 then .critical else .tolerated
          irreversible := (byteAt p 7).getLsbD 1
          ramp := numAt2 p 14
          settle := numAt2 p 16
          discharge := numAt2 p 18
          body := body }
    else none := by
  unfold parseNode
  refine if_congr Iff.rfl ?_ rfl
  cases parseBody p <;> cases finOf 16 (byteAt p 3) <;> cases parsePrereqs p <;> rfl

theorem parseNode_eq_none_iff (p : List Byte) : parseNode p = none ↔ 3 < (byteAt p 5).toNat ∨ 15 < (byteAt p 6).toNat
    ∨ 3 < (byteAt p 7).toNat ∨ parseBody p = none ∨ 15 < (byteAt p 3).toNat ∨ parsePrereqs p = none := by
  have output : 15 < (byteAt p 3).toNat ↔ finOf 16 (byteAt p 3) = none := finOf_eq_none_iff.symm
  rw [parseNode_eq, output]
  split
  · rename_i h
    have h5 : ¬ 3 < (byteAt p 5).toNat := by omega
    have h6 : ¬ 15 < (byteAt p 6).toNat := by omega
    have h7 : ¬ 3 < (byteAt p 7).toNat := by omega
    simp only [h5, h6, h7, false_or]
    cases parseBody p <;> cases finOf 16 (byteAt p 3) <;> cases parsePrereqs p <;> simp
  · rename_i h
    simp only [true_iff]
    omega

theorem parseRecord_eq_none_iff (p : List Byte) :
    parseRecord p = none ↔ (byteAt p 1).toNat ≠ 0 ∧ parseNode p = none := by
  unfold parseRecord
  split
  · rename_i h; simp [h]
  · rename_i h; simp [h]

theorem parseRecord_eq_some_none_iff (p : List Byte) : parseRecord p = some none ↔ (byteAt p 1).toNat = 0 := by
  unfold parseRecord
  split
  · rename_i h; simp [h]
  · rename_i h; cases parseNode p <;> simp [h]

theorem parseNode_of_parseRecord {p : List Byte} {r : NodeRecord} (h : parseRecord p = some (some r)) :
    parseNode p = some r := by
  unfold parseRecord at h
  split at h
  · cases h
  · obtain ⟨q, hq, h⟩ := Option.map_eq_some_iff.mp h
    rw [hq, Option.some.inj h]

/-- What a record that is read holds (Table 11-7). -/
theorem parseNode_some {p : List Byte} {r : NodeRecord} (h : parseNode p = some r) :
    r.output.val = (byteAt p 3).toNat ∧ r.polarity = levelOfBit ((byteAt p 5).getLsbD 0)
    ∧ r.levels = ⟨(byteAt p 6).getLsbD 0, (byteAt p 6).getLsbD 1, (byteAt p 6).getLsbD 2, (byteAt p 6).getLsbD 3⟩
    ∧ r.prereqs.map (fun q : Slot => byte1 q.val) = prereqEntries p
    ∧ r.severity = (if (byteAt p 7).getLsbD 0 then .critical else .tolerated) ∧ r.irreversible = (byteAt p 7).getLsbD 1
    ∧ r.ramp = numAt2 p 14 ∧ r.settle = numAt2 p 16 ∧ r.discharge = numAt2 p 18 ∧ parseBody p = some r.body := by
  rw [parseNode_eq] at h
  split at h
  · obtain ⟨body, hbody, h⟩ := Option.bind_eq_some_iff.mp h
    obtain ⟨out, hout, h⟩ := Option.bind_eq_some_iff.mp h
    obtain ⟨pre, hpre, rfl⟩ := Option.map_eq_some_iff.mp h
    exact ⟨toNat_of_finOf hout, rfl, rfl, (parsePrereqs_cases p).2 pre hpre, rfl, rfl, rfl, rfl, rfl, hbody⟩
  · cases h

end Sys2Proof.Machine
end

section
/-! SETTLEMENT. NODE_PUT's checks. -/

namespace Sys2Proof.Machine

/-- An answer that refuses leaves the reply alone. -/
theorem nodePut_refused {s : State} (ready : s.isReady) {p : List Byte} (short : p.length ≤ 32) {st : Status}
    (h : nodePutAnswer p s = .refuse s st) :
    exec (.nodePut p) s = .next (s.withReply (p.length + 2) (refusal 0x11 st.code)) :=
  congrArg Host.Outcome.next (request_refused ready 0x11 p short (nodePutAnswer p) st h)

theorem nodePut_done {s t : State} (ready : s.isReady) {p : List Byte} (short : p.length ≤ 32) {st : Status}
    (h : nodePutAnswer p s = .done t st) :
    exec (.nodePut p) s = .next (t.withReply (p.length + 2) [0x91, 1, byte1 st.code]) :=
  congrArg Host.Outcome.next (request_done ready 0x11 p short (nodePutAnswer p) t st h)

/-- The refusals of a record in the order of its bytes and in that of the statement. -/
theorem refusals_iff {zero large a b c d e f g h : Prop} (kind : large → ¬zero) :
    (¬zero ∧ (b ∨ c ∨ d ∨ (zero ∨ large ∨ g ∨ h) ∨ a ∨ e ∨ f)) ↔
      large ∨ (¬zero ∧ (a ∨ b ∨ c ∨ d ∨ e ∨ f ∨ g ∨ h)) := by
  by_cases hz : zero
  · have : ¬large := fun h => kind h hz
    simp only [hz, this, not_true, false_and, or_self]
  · simp only [hz, not_false_iff, true_and, false_or]
    tauto

/-- The first refusal of a chain of checks. -/
theorem elim_ite {α : Type} (c : Prop) [Decidable c] (st : Status) (o : Option Status) (passed : α) (f : Status → α) :
    (if c then some st else o).elim passed f = if c then f st else o.elim passed f := by split <;> rfl

/-- A put whose frame, moment and values are right meets the checks of R41. -/
theorem nodePut_checked {s : State} (ready : s.isReady) {p : List Byte} (short : p.length ≤ 32)
    (hl : p.length = recordLength p) (idle : (s.board.phase.inTransition || s.store.saving.isSome) = false) {i : Slot}
    {rec : Option NodeRecord} (hi : finOf 20 (byteAt p 0) = some i) (hr : parseRecord p = some rec) :
    exec (.nodePut p) s = (putRefusal s.cfg s.board i rec).elim
      (.next ((s.putNode i (rec.map clampNode)).withReply (p.length + 2)
        [0x91, 1, if rec.map clampNode = rec then 0x00 else 0x02]))
      (fun st => .next (s.withReply (p.length + 2) (refusal 0x11 st.code))) := by
  have answer : nodePutAnswer p s = match putRefusal s.cfg s.board i rec with
      | some st => .refuse s st
      | none => .done (s.putNode i (rec.map clampNode)) (if rec.map clampNode = rec then .ok else .clamped) := by
    unfold nodePutAnswer
    rw [if_neg (not_not.mpr hl), if_neg (by rw [State.isSaving, idle]; exact Bool.false_ne_true), hi, hr] <;> rfl
  cases hc : putRefusal s.cfg s.board i rec with
  | some st =>
    rw [hc] at answer
    exact nodePut_refused ready short answer
  | none =>
    rw [hc] at answer
    rw [nodePut_done ready short answer, putCode]
    rfl

/-- Settles O35: the order of the checks, the values of a payload, the structural fields, the clamps. -/
theorem nodePutChecksInOrder : Obligations.NodePutChecksInOrder := by
  unfold Obligations.NodePutChecksInOrder
  refine ⟨fun s p ready short => ?_, fun p => ?_, fun old new => ?_, fun r => ?_, fun w => ?_⟩
  · intro refused
    change _ = if p.length ≠ recordLength p then refused 0x18 else _
    by_cases hl : p.length ≠ recordLength p
    · exact (nodePut_refused (st := .frame) ready short (if_pos hl)).trans (if_pos hl).symm
    rw [if_neg hl]
    cases idle : s.board.phase.inTransition || s.store.saving.isSome with
    | true => exact nodePut_refused (st := .busy) ready short ((if_neg hl).trans (if_pos idle))
    | false =>
      have busy : ¬(s.board.phase.inTransition || s.isSaving) = true := by
        rw [State.isSaving, idle]; exact Bool.false_ne_true
      cases hi : finOf 20 (byteAt p 0) with
      | none =>
        refine nodePut_refused (st := .range) ready short ((if_neg hl).trans ((if_neg busy).trans ?_))
        rw [hi]
      | some i =>
        cases hr : parseRecord p with
        | none =>
          refine nodePut_refused (st := .range) ready short ((if_neg hl).trans ((if_neg busy).trans ?_))
          rw [hi, hr]
        | some rec =>
          rw [nodePut_checked ready short (not_not.mp hl) idle hi hr]
          unfold putRefusal
          rw [if_neg Bool.false_ne_true, elim_ite, elim_ite, elim_ite, elim_ite, elim_ite]
          refine if_congr (badRef_iff ..) rfl (if_congr (clashes_iff ..) rfl (if_congr (makesCycle_iff ..) rfl
            (if_congr (isListed_iff ..) rfl (if_congr ?_ rfl ?_))))
          · rw [Bool.and_eq_true, Bool.not_eq_true']
          · rfl
  · intro num num2 bit polarity entries
    refine ⟨parseRecord_eq_some_none_iff p, ?_, fun r h => ?_⟩
    · rw [parseRecord_eq_none_iff, parseNode_eq_none_iff, parseBody_eq_none_iff, (parsePrereqs_cases p).1]
      show _ ↔ 3 < (byteAt p 1).toNat ∨ ((byteAt p 1).toNat ≠ 0 ∧ (15 < (byteAt p 3).toNat ∨ 3 < (byteAt p 5).toNat
        ∨ 15 < (byteAt p 6).toNat ∨ 3 < (byteAt p 7).toNat ∨ (∃ x ∈ prereqEntries p, 19 < x.toNat)
        ∨ ¬ (prereqEntries p).Nodup
        ∨ ((byteAt p 1).toNat = 1 ∧ (2 < (byteAt p 2).toNat ∨ ((byteAt p 2).toNat ≠ 2 ∧ 11 < (byteAt p 4).toNat)))
        ∨ ((byteAt p 1).toNat = 3 ∧ 11 < (byteAt p 4).toNat)))
      exact refusals_iff (by omega)
    · obtain ⟨output, polarity', levels, prereqs, severity, irreversible, ramp, settle, discharge, body⟩ :=
        parseNode_some (parseNode_of_parseRecord h)
      refine ⟨output, polarity', levels, prereqs, severity, irreversible, ramp, settle, discharge, ?_⟩
      have held := parseBody_some body
      cases hb : r.body with
      | rail source priority weight retries =>
        rw [hb] at held
        obtain ⟨kind, hpriority, hretries, hweight, hsource⟩ := held
        refine ⟨kind, hpriority, hretries, hweight, ?_⟩
        have good := parseGoodSource_some hsource
        cases source with
        | analog c w g b => exact good
        | digital d pol g b => exact good
        | timed => exact good
      | signal => rw [hb] at held; exact held
      | handshake a pol g => rw [hb] at held; exact held
  · match old, new with
    | none, none => exact ⟨fun h => Bool.false_ne_true h, False.elim⟩
    | none, some q => exact ⟨fun _ => trivial, fun _ => rfl⟩
    | some r, none => exact ⟨fun _ => trivial, fun _ => rfl⟩
    | some r, some q =>
      refine (structuralChange_some r q).trans (not_congr (and_congr_right fun _ => and_congr_right fun _ =>
        and_congr_right fun _ => and_congr_right fun _ => and_congr_right fun _ => (shape_eq_iff _ _).trans ?_))
      rcases r.body with ⟨_ | _ | _, _, _, _⟩ | _ | _ <;> rcases q.body with ⟨_ | _ | _, _, _, _⟩ | _ | _ <;> exact Iff.rfl
  · rw [clampNode, clampBody_eq, clamp_zero]
    rfl
  · intro scale nominal under
    rw [clampWindow, clamp_zero, clamp_zero]
    rfl

end Sys2Proof.Machine
end

section
/-! SUPPORT. A put and the graph, and what an accepted put leaves of its slot. -/

namespace Sys2Proof.Machine

section
variable {cfg : WorkingConfig} {i : Slot}

theorem prereqs_putNode_ne (rec : Option NodeRecord) {a : Slot} (ha : a ≠ i) :
    (cfg.putNode i rec).prereqs a = cfg.prereqs a := by
  unfold WorkingConfig.prereqs
  rw [node_putNode, if_neg ha]

/-- A path in the table with a record put lies in the old table, or leaves the put slot on its way. -/
theorem path_putNode (rec : Option NodeRecord) {a z : Slot} (h : Relation.TransGen (cfg.putNode i rec).lists a z) :
    Relation.TransGen cfg.lists a z
    ∨ (Relation.ReflTransGen (cfg.putNode i rec).lists a i ∧ Relation.TransGen (cfg.putNode i rec).lists i z) := by
  have old {x y : Slot} (hx : x ≠ i) (h : (cfg.putNode i rec).lists x y) : cfg.lists x y := by
    unfold WorkingConfig.lists at h ⊢
    rwa [prereqs_putNode_ne rec hx] at h
  induction h using Relation.TransGen.head_induction_on with
  | @single a hab =>
    by_cases ha : a = i
    · subst ha; exact .inr ⟨.refl, .single hab⟩
    · exact .inl (.single (old ha hab))
  | @head a c hac hcz ih =>
    by_cases ha : a = i
    · subst ha; exact .inr ⟨.refl, .head hac hcz⟩
    · rcases ih with ih | ⟨hci, hiz⟩
      · exact .inl (.head (old ha hac) ih)
      · exact .inr ⟨.head hac hci, hiz⟩

theorem makesCycle_eq_false_iff (r : NodeRecord) :
    makesCycle cfg i r = false ↔ ¬ Relation.TransGen (cfg.putNode i (some r)).lists i i := by
  rw [← mem_below, makesCycle, ← Bool.not_eq_true, List.contains_iff_mem]

end

section
variable {n : Node} {old new : Option NodeRecord}

theorem lastSample_stateAfterPut : (n.restartCounters.stateAfterPut old new).lastSample = n.lastSample
    ∧ (n.restartCounters.stateAfterPut old new).lastClass = n.lastClass
    ∧ (n.restartCounters.stateAfterPut old new).saturated = n.saturated := by
  have restart : n.restartCounters.lastSample = n.lastSample ∧ n.restartCounters.lastClass = n.lastClass
      ∧ n.restartCounters.saturated = n.saturated := by
    unfold Node.restartCounters
    split <;> exact ⟨rfl, rfl, rfl⟩
  unfold Node.stateAfterPut
  split <;> exact restart

/-- A change of the analog source makes the last sample absent (R105). -/
theorem afterPut_forgets (h : old.bind (fun r => r.body.channel) ≠ new.bind (fun r => r.body.channel)) :
    (n.afterPut old new).lastSample = none ∧ (n.afterPut old new).lastClass = .none
      ∧ (n.afterPut old new).saturated = false := by
  unfold Node.afterPut Node.forgetSample
  rw [if_neg h]
  exact ⟨rfl, rfl, rfl⟩

theorem afterPut_keeps_sample (h : old.bind (fun r => r.body.channel) = new.bind (fun r => r.body.channel)) :
    (n.afterPut old new).lastSample = n.lastSample ∧ (n.afterPut old new).lastClass = n.lastClass
      ∧ (n.afterPut old new).saturated = n.saturated := by
  unfold Node.afterPut Node.forgetSample
  rw [if_pos h]
  exact lastSample_stateAfterPut

/-- The counters start again at a put to a node that is sampled (R47). -/
theorem afterPut_counters (h : n.state = .ramping ∨ n.state = .settling ∨ n.state = .good ∨ n.state = .discharging) :
    (n.afterPut old new).inCount = 0 ∧ (n.afterPut old new).overCount = 0 ∧ (n.afterPut old new).badCount = 0
      ∧ (n.afterPut old new).offCount = 0 := by
  have restart : n.restartCounters = { n with inCount := 0, overCount := 0, badCount := 0, offCount := 0 } := by
    unfold Node.restartCounters
    rcases h with h | h | h | h <;> rw [h]
  have kept : (n.restartCounters.stateAfterPut old new).inCount = 0 ∧ (n.restartCounters.stateAfterPut old new).overCount = 0
      ∧ (n.restartCounters.stateAfterPut old new).badCount = 0 ∧ (n.restartCounters.stateAfterPut old new).offCount = 0 := by
    rw [restart]
    unfold Node.stateAfterPut
    split
    · refine ⟨rfl, rfl, ?_, rfl⟩
      exact ite_self 0
    · exact ⟨rfl, rfl, rfl, rfl⟩
  unfold Node.afterPut Node.forgetSample
  split <;> exact kept

theorem afterPut_deadline (hnew : new ≠ none) (h : n.state.isFaulted = false) :
    (n.afterPut old new).deadline = n.deadline := by
  have same : n.restartCounters.stateAfterPut old new = n.restartCounters := by
    unfold Node.stateAfterPut
    refine if_neg ?_
    rw [restartCounters_state, h, Bool.false_and, Bool.or_false, Option.isNone_iff_eq_none]
    exact hnew
  have restart : n.restartCounters.deadline = n.deadline := by
    unfold Node.restartCounters
    split <;> rfl
  unfold Node.afterPut Node.forgetSample
  rw [same]
  split <;> exact restart

/-- The line of every output after a put (R31, R47). -/
theorem putLines_get (outs : Vector Drive 16) (o : Fin 16) : (bindLine old new (releaseLine old new outs)).get o =
    if ∃ q, new = some q ∧ q.output = o ∧ ¬ ∃ r, old = some r ∧ r.output = o ∧ r.polarity = q.polarity then
      match new with
      | some q => .driven (flipLevel q.polarity)
      | none => .released
    else if (∃ r, old = some r ∧ r.output = o) ∧ ¬ ∃ q, new = some q ∧ q.output = o then .released
    else outs.get o := by
  by_cases bound : ∃ q, new = some q ∧ q.output = o
  · obtain ⟨q, rfl, rfl⟩ := bound
    have same : old.any (fun r => r.output == q.output && r.polarity == q.polarity) = true ↔
        ∃ r, old = some r ∧ r.output = q.output ∧ r.polarity = q.polarity := by
      simp [Option.any_eq_true]
    have there : ∃ p, some q = some p ∧ p.output = q.output := ⟨q, rfl, rfl⟩
    rw [putLines_get_self]
    by_cases h : ∃ r, old = some r ∧ r.output = q.output ∧ r.polarity = q.polarity
    · rw [if_pos (same.mpr h), if_neg, if_neg (fun k => k.2 there)]
      rintro ⟨p, hp, _, hno⟩
      obtain rfl := Option.some.inj hp
      exact hno h
    · rw [if_neg (fun k => h (same.mp k))]
      exact (if_pos ⟨q, rfl, rfl, h⟩).symm
  · have unbound : ¬ ∃ q, new = some q ∧ q.output = o ∧ ¬ ∃ r, old = some r ∧ r.output = o ∧ r.polarity = q.polarity :=
      fun ⟨q, hq, ho, _⟩ => bound ⟨q, hq, ho⟩
    refine (putLines_get_ne fun q hq ho => bound ⟨q, hq, ho⟩).trans (Eq.trans ?_ (if_neg unbound).symm)
    exact if_congr (and_iff_left bound).symm rfl rfl

end

end Sys2Proof.Machine
end

section
/-! SETTLEMENT. A put and the graph, and its effects. -/

namespace Sys2Proof.Machine

/-- Settles O36: a cycle of the table with the record leaves the put slot, and comes back to it. -/
theorem cycleCheckIsExact : Obligations.CycleCheckIsExact := by
  unfold Obligations.CycleCheckIsExact
  intro cfg i r acyclic
  rw [makesCycle_eq_false_iff]
  refine ⟨fun h j cycle => ?_, fun h => h i⟩
  rcases path_putNode (some r) cycle with old | ⟨back, forth⟩
  · exact acyclic j old
  · exact h (forth.trans_left back)

/-- Settles O37: the slot's state, sample, counters and deadline, and its lines. -/
theorem nodePutEffects : Obligations.NodePutEffects := by
  unfold Obligations.NodePutEffects
  intro s i rec old n t
  have slot : t.board.node i = n.afterPut old rec := node_putNode_self s i rec
  refine ⟨rfl, rfl, ?_, fun j hj => ⟨?_, onlySlot_putNode s i rec j hj⟩, ?_, ?_, fun h => ?_, fun h => ?_, fun h => ?_,
    fun h1 h2 => ?_, fun o => putLines_get s.board.outs o⟩
  · exact (node_putNode s.cfg i i rec).trans (if_pos rfl)
  · exact (node_putNode s.cfg i j rec).trans (if_neg hj)
  · rw [slot]
    cases rec <;> rfl
  · rw [Board.stateOf, slot, state_afterPut]
    refine if_congr ?_ rfl rfl
    rw [Node.putsOff, Bool.or_eq_true, Bool.and_eq_true, Option.isNone_iff_eq_none]
  · rw [slot]; exact afterPut_forgets h
  · rw [slot]; exact afterPut_keeps_sample h
  · rw [slot]; exact afterPut_counters h
  · rw [slot]; exact afterPut_deadline h1 h2

end Sys2Proof.Machine
end

section
/-! SUPPORT. Samples: thresholds, classes, ticks, results, and what a sample leaves. -/

namespace Sys2Proof.Machine

/-! ### Thresholds (R97) -/

section
variable {w : Window}

theorem goodLow_pos (h : w.inRange) : 1 ≤ w.goodLow := by
  obtain ⟨⟨hn, _⟩, _, ⟨_, hu⟩, _⟩ := h
  have : w.nominal * w.underTol ≤ w.nominal * 250 := Nat.mul_le_mul_left _ hu
  unfold Window.goodLow
  omega

theorem goodHigh_le (h : w.inRange) : w.goodHigh ≤ w.nominal * 5 / 4 := by
  obtain ⟨_, _, _, ⟨_, ho⟩, _⟩ := h
  have : w.nominal * w.overTol ≤ w.nominal * 250 := Nat.mul_le_mul_left _ ho
  unfold Window.goodHigh
  omega

theorem discharged_le (h : w.inRange) : w.discharged ≤ w.nominal / 2 := by
  obtain ⟨_, _, _, _, _, ht⟩ := h
  have : w.nominal * w.threshold ≤ w.nominal * 500 := Nat.mul_le_mul_left _ ht
  unfold Window.discharged
  omega

theorem holdLow_eq (w : Window) : w.holdLow = if w.goodLow < w.hysteresis then 0 else w.goodLow - w.hysteresis := by
  unfold Window.holdLow
  split <;> omega

/-! ### Classes (R98 to R100) -/

theorem isSaturated_iff (code : Nat) : isSaturated code = true ↔ code = 1023 := beq_iff_eq

theorem isSaturated_eq (code : Nat) : isSaturated code = decide (code = 1023) := by
  rw [Bool.eq_iff_iff, isSaturated_iff, decide_eq_true_eq]

theorem millivolts_le_fullScale {code : Nat} (h : code ≤ 1023) (scale : Nat) : millivolts code scale ≤ fullScale scale :=
  Nat.div_le_div_right (Nat.mul_le_mul_right scale h)

theorem classify_ramping (w : Window) (code : Nat) : classify w .ramping code = some
    (if code = 1023 ∨ w.goodHigh < code * w.scale / 1000 then .overBand
      else if code * w.scale / 1000 < w.goodLow then .underBand else .inBand) := by
  unfold classify
  refine congrArg some (if_congr ?_ rfl rfl)
  rw [Bool.or_eq_true, isSaturated_iff, decide_eq_true_eq]
  rfl

theorem classify_held (w : Window) (code : Nat) {st : NodeState} (h : st = .settling ∨ st = .good ∨ st = .pending true) :
    classify w st code = some (if code = 1023 ∨ w.holdHigh < code * w.scale / 1000 then .badHigh
      else if code * w.scale / 1000 < w.holdLow then .badLow else .ok) := by
  have held : classify w st code = some (if isSaturated code || decide (w.holdHigh < millivolts code w.scale) then .badHigh
      else if millivolts code w.scale < w.holdLow then .badLow else .ok) := by rcases h with rfl | rfl | rfl <;> rfl
  refine held.trans (congrArg some (if_congr ?_ rfl rfl))
  rw [Bool.or_eq_true, isSaturated_iff, decide_eq_true_eq]
  rfl

theorem classify_discharging (w : Window) (code : Nat) : classify w .discharging code =
    some (if code ≠ 1023 ∧ code * w.scale / 1000 ≤ w.discharged then .discharged else .notDischarged) := by
  unfold classify
  refine congrArg some (if_congr ?_ rfl rfl)
  rw [Bool.and_eq_true, Bool.not_eq_true', isSaturated_eq, decide_eq_false_iff_not, decide_eq_true_eq]
  rfl

/-- Where the band reaches full scale only a saturated sample lies over it. -/
theorem overBand_iff {code : Nat} (hcode : code ≤ 1023) (h : fullScale w.scale ≤ w.goodHigh) :
    classify w .ramping code = some .overBand ↔ isSaturated code = true := by
  have low : ¬ w.goodHigh < code * w.scale / 1000 := Nat.not_lt.mpr ((millivolts_le_fullScale hcode w.scale).trans h)
  rw [classify_ramping, isSaturated_iff, if_congr (or_iff_left low) rfl rfl]
  split
  · rename_i hs; simp [hs]
  · rename_i hs; split <;> simp [hs]

theorem badHigh_iff {code : Nat} (hcode : code ≤ 1023) (h : fullScale w.scale ≤ w.holdHigh) :
    classify w .good code = some .badHigh ↔ isSaturated code = true := by
  have low : ¬ w.holdHigh < code * w.scale / 1000 := Nat.not_lt.mpr ((millivolts_le_fullScale hcode w.scale).trans h)
  rw [classify_held w code (.inr (.inl rfl)), isSaturated_iff, if_congr (or_iff_left low) rfl rfl]
  split
  · rename_i hs; simp [hs]
  · rename_i hs; split <;> simp [hs]

theorem discharged_iff (w : Window) (code : Nat) : classify w .discharging code = some .discharged ↔
    millivolts code w.scale ≤ w.discharged ∧ isSaturated code = false := by
  rw [classify_discharging, isSaturated_eq, decide_eq_false_iff_not]
  show _ ↔ code * w.scale / 1000 ≤ w.discharged ∧ ¬ code = 1023
  split
  · rename_i h; exact ⟨fun _ => ⟨h.2, h.1⟩, fun _ => rfl⟩
  · rename_i h; exact ⟨fun k => (by cases k), fun k => absurd ⟨k.2, k.1⟩ h⟩

end

end Sys2Proof.Machine
end

section
/-! SETTLEMENT. Thresholds, classes and counters. -/

namespace Sys2Proof.Machine

/-- Settles O38: the bounds of the thresholds, the two bands, the runs. -/
theorem thresholdsAndClasses : Obligations.ThresholdsAndClasses := by
  unfold Obligations.ThresholdsAndClasses
  refine ⟨fun w h => ⟨rfl, goodLow_pos h, rfl, goodHigh_le h, holdLow_eq w, Nat.sub_le _ _, rfl, rfl, discharged_le h⟩,
    fun w => Nat.min_le_right _ _, fun w code hcode => ⟨overBand_iff hcode, badHigh_iff hcode, fun h => ?_, by omega,
      discharged_iff w code⟩, fun w code => ⟨classify_ramping w code, fun st h => classify_held w code h⟩,
    fun n => ⟨rfl, rfl, rfl, fun h => ?_⟩, fun g b n h => ⟨if_pos h, if_pos h⟩⟩
  · rw [h]
    show code * w.scale / 1000 ≤ 0 ↔ _
    omega
  · have more : bump n.badCount = n.badCount + 1 := by unfold bump; omega
    exact ⟨more, more⟩

/-- Settles O39: the classes that remain, digital inputs by level, the counters, the results. -/
theorem samplesCountAndProve : Obligations.SamplesCountAndProve := by
  unfold Obligations.SamplesCountAndProve
  refine ⟨classify_discharging, fun w code st h => ?_, fun good forced => ⟨rfl, fun st h => ?_, rfl, rfl, rfl,
    fun st h1 h2 => ?_⟩, fun n => ⟨rfl, rfl, rfl, rfl, fun _ => rfl, rfl, rfl, rfl⟩,
    fun g b n => ⟨rfl, rfl, fun _ => rfl, rfl, rfl, rfl, rfl, rfl⟩⟩
  · rcases h with rfl | rfl | rfl | rfl | h
    · rfl
    · rfl
    · rfl
    · rfl
    · cases st with
      | faulted k => rfl
      | _ => cases h
  · rcases h with rfl | rfl | rfl <;> rfl
  · cases st with
    | ramping => exact absurd rfl h1
    | stopping => exact absurd rfl h2
    | _ => rfl

end Sys2Proof.Machine
end

section
/-! SUPPORT. A sample at its slot. -/

namespace Sys2Proof.Machine

section
variable {s : State} {b : Board} {e : Env} {i : Slot}

theorem setNode_setNode (b : Board) (i : Slot) (m n : Node) : (b.setNode i m).setNode i n = b.setNode i n := by
  simp [Board.setNode]

/-- A counted sample, from the node it leaves (R102, R103). -/
theorem takeSample_eq (s : State) (b : Board) (i : Slot) (r : NodeRecord) (t : Tick) :
    s.takeSample i (countSample b i r t) =
      match resultOf r.body.limits.1 r.body.limits.2 ((b.node i).count t) t with
      | none => { s with board := b.setNode i ((b.node i).count t) }
      | some result => finish s { s with board := deliver s.env (b.setNode i ((b.node i).count t)) i result } := rfl

theorem sampleAnalog_none {r : NodeRecord} {w : Window} {code : Nat} (h : classify w (s.board.stateOf i) code = none) :
    s.sampleAnalog i r w code = s := by
  unfold State.sampleAnalog
  simp only [h]

/-- An analog sample that is read: held, and counted unless its discharge is unobserved. -/
theorem sampleAnalog_some {r : NodeRecord} {w : Window} {code : Nat} {c : SampleClass}
    (h : classify w (s.board.stateOf i) code = some c) : s.sampleAnalog i r w code =
      s.takeSample i (countSample (s.board.setNode i ((s.board.node i).hold w code c)) i r
        (if (s.board.node i).state = .discharging ∧ (s.board.node i).unobserved = true then .nothing
          else tickOfClass c)) := by
  unfold State.sampleAnalog
  simp only [h]
  refine congrArg (fun t => s.takeSample i (countSample _ i r t)) ?_
  show (if !(((s.board.node i).state == .discharging) && (s.board.node i).unobserved) then _ else _) = _
  by_cases hs : (s.board.node i).state = .discharging
  · rw [hs]
    cases (s.board.node i).unobserved <;> rfl
  · simp [hs]

/-- A power-good input by its level (R101). -/
theorem tickOfGoodInput_eq (st : NodeState) (level pol : Level) : tickOfGoodInput st (level == pol) = match st with
    | .ramping => if level = pol then .up else .neither
    | .settling | .good | .pending true => if level = pol then .fine else .bad false
    | _ => .nothing := by
  cases st with
  | pending on => cases on <;> cases level <;> cases pol <;> rfl
  | _ => cases level <;> cases pol <;> rfl

/-- An acknowledge line by its level (R101). -/
theorem tickOfAck_eq (st : NodeState) (forced : Bool) (level pol : Level) : tickOfAck st forced (level == pol) =
    match st with
    | .ramping => if level = pol then .up else .neither
    | .stopping => if forced = true then .nothing else if level = pol then .notDown else .down
    | _ => .nothing := by
  cases st <;> cases level <;> cases pol <;> rfl

theorem deliver_onProof (e : Env) (b : Board) (i : Slot) :
    deliver e b i .onProof = if b.stateOf i = .ramping then toSettling e b i else b := by
  unfold deliver
  cases b.stateOf i <;> rfl

theorem deliver_overVolt (e : Env) (b : Board) (i : Slot) :
    deliver e b i .overVolt = if b.stateOf i = .ramping then takeFault e b i .overvolt false else b := by
  unfold deliver
  cases b.stateOf i <;> rfl

theorem deliver_disqualified (e : Env) (b : Board) (i : Slot) (h : Bool) : deliver e b i (.disqualified h) =
    if b.stateOf i = .settling then rampFailure e b i
    else if b.stateOf i = .good ∨ b.stateOf i = .pending true
      then takeFault e b i (if h then .overvolt else .dropout) true else b := by
  unfold deliver
  cases b.stateOf i with
  | pending on => cases on <;> rfl
  | _ => rfl

theorem deliver_offProof (e : Env) (b : Board) (i : Slot) : deliver e b i .offProof =
    if (b.stateOf i = .discharging ∧ (b.node i).unobserved = false)
      ∨ (b.stateOf i = .stopping ∧ (b.node i).forced = false) then takeEnding e b i else b := by
  unfold deliver
  cases b.stateOf i with
  | discharging => cases (b.node i).unobserved <;> simp
  | stopping => cases (b.node i).forced <;> simp
  | _ => simp

theorem toSettling_of_node {r : NodeRecord} (hr : e.cfg.node i = some r) : toSettling e b i =
    if r.settle = 0 then enter e.cfg b i .good none else enter e.cfg b i .settling (some ⟨.settle, e.now + r.settle⟩) := by
  unfold toSettling; rw [hr]

theorem badRunsOn_iff (st st' : NodeState) : badRunsOn st st' = true ↔ (st = .settling ∧ st' = .good)
    ∨ (st = .good ∧ st' = .pending true) ∨ (st = .pending true ∧ st' = .good) := by
  unfold badRunsOn
  split <;> simp_all

theorem isDown_eq (st : NodeState) : st.isDown = decide (st = .off ∨ st.isFaulted = true) := by
  cases st <;> simp [NodeState.isDown, NodeState.isFaulted]

/-- The slot after a change of node state (R52, R54, R78, R89). -/
theorem withState_eq (n : Node) (st : NodeState) (dl : Option Deadline) : n.withState st dl = { n with
    state := st, deadline := dl, inCount := 0, overCount := 0, offCount := 0
    badCount := if (n.state = .settling ∧ st = .good) ∨ (n.state = .good ∧ st = .pending true)
      ∨ (n.state = .pending true ∧ st = .good) then n.badCount else 0
    ending := if decide (st = .off ∨ st.isFaulted = true) then .off else n.ending
    failure := n.failure && !decide (st = .off ∨ st.isFaulted = true)
    forced := n.forced && !decide (st = .off ∨ st.isFaulted = true)
    unobserved := n.unobserved && st == .discharging, charge := if st = .ramping then n.charge else 0 } := by
  unfold Node.withState
  rw [isDown_eq, if_congr (badRunsOn_iff n.state st) rfl rfl]

/-- The lines after a change of node state (R52). -/
theorem outsFor_get {cfg : WorkingConfig} {r : NodeRecord} (hr : cfg.node i = some r) (outs : Vector Drive 16)
    (st : NodeState) (o : Fin 16) : (outsFor cfg outs i st).get o =
      if o = r.output then .driven (if st.level then r.polarity else flipLevel r.polarity) else outs.get o := by
  by_cases ho : o = r.output
  · rw [if_pos ho, ho]
    exact outsFor_get_self hr outs st
  · rw [if_neg ho]
    exact outsFor_get_ne (fun q hq hqo => ho (by rw [← hqo, Option.some.inj (hq.symm.trans hr)])) outs st

end

end Sys2Proof.Machine
end

section
/-! SETTLEMENT. Samples. -/

namespace Sys2Proof.Machine

/-- Settles O40: analog and digital samples, the results at the switch, the settle time, the change of node state. -/
theorem samplesAreHeldAndTaken : Obligations.SamplesAreHeldAndTaken := by
  unfold Obligations.SamplesAreHeldAndTaken
  refine ⟨fun s i r w code => ⟨sampleAnalog_none, fun c h => ?_⟩, fun c pol w g b p wt n => ⟨rfl, rfl, rfl⟩,
    fun s i r level => ?_, fun e b i => ⟨deliver_onProof e b i, deliver_overVolt e b i, deliver_disqualified e b i,
      deliver_offProof e b i⟩, fun e b i r => toSettling_of_node, fun cfg b i r st dl hr => ?_⟩
  · intro n held tick b
    rw [sampleAnalog_some h, takeSample_eq, node_setNode_self, setNode_setNode]
    rfl
  · intro n taken
    unfold State.sampleDigital
    rcases r.body with ⟨_ | ⟨c, pol, g, b⟩ | _, _, _, _⟩ | _ | ⟨a, pol, g⟩
    · rfl
    · exact congrArg taken (tickOfGoodInput_eq n.state level pol)
    · rfl
    · rfl
    · exact congrArg taken (tickOfAck_eq n.state n.forced level pol)
  · intro n t down
    exact ⟨rfl, onlySlot_enter cfg b i st dl, (node_enter_self cfg b i st dl).trans (withState_eq n st dl),
      outsFor_get hr b.outs st, rfl⟩

end Sys2Proof.Machine
end

section
/-! SUPPORT. A pass of a round: what every sample of it keeps, the monitor it can leave, and the binding it reads by. -/

namespace Sys2Proof.Machine

section
variable {s t : State} {i : Slot} {r : NodeRecord} {c : Fin 12} {m : RoundMode} {readings : Readings}

/-- What a sample can do to a state: its board changes, and perhaps the event of a result ends. -/
def Samples (s t : State) : Prop :=
  ∃ b, t = { s with board := b } ∨ t = finish s { s with board := b }

theorem Samples.refl (s : State) : Samples s s := ⟨s.board, .inl rfl⟩

theorem samples_takeSample (s : State) (i : Slot) (x : Board × Option Result) : Samples s (s.takeSample i x) := by
  unfold State.takeSample
  split
  · exact ⟨_, .inl rfl⟩
  · exact ⟨_, .inr rfl⟩

theorem samples_sampleAnalog (s : State) (i : Slot) (r : NodeRecord) (w : Window) (code : Nat) :
    Samples s (s.sampleAnalog i r w code) := by
  unfold State.sampleAnalog
  dsimp only
  split
  · exact Samples.refl s
  · exact samples_takeSample _ _ _

theorem samples_sampleDigital (s : State) (i : Slot) (r : NodeRecord) (level : Level) :
    Samples s (s.sampleDigital i r level) := by
  unfold State.sampleDigital
  split
  · exact samples_takeSample _ _ _
  · exact samples_takeSample _ _ _
  all_goals exact Samples.refl s

theorem samples_readChannel (s : State) (m : RoundMode) (readings : Readings) (c : Fin 12) :
    Samples s (s.readChannel m readings c) := by
  unfold State.readChannel
  split
  · exact Samples.refl s
  · split
    · split
      · exact samples_sampleAnalog _ _ _ _ _
      all_goals exact Samples.refl s
    · exact Samples.refl s

theorem samples_readInput (s : State) (m : RoundMode) (readings : Readings) (c : Fin 12) :
    Samples s (s.readInput m readings c) := by
  unfold State.readInput
  split
  · exact Samples.refl s
  · split
    · exact samples_sampleDigital _ _ _ _
    · exact Samples.refl s

/-- What a pass leaves as it is, and that its time stands still. -/
structure Kept (s t : State) : Prop where
  now : t.now = s.now
  cfg : t.cfg = s.cfg
  inputs : t.inputs = s.inputs
  quals : t.quals = s.quals
  store : t.store = s.store
  pins : t.pins = s.pins
  startup : t.startup = s.startup
  reply : t.link.reply = s.link.reply

theorem Kept.refl (s : State) : Kept s s := ⟨rfl, rfl, rfl, rfl, rfl, rfl, rfl, rfl⟩

theorem Kept.trans {u : State} (h : Kept s t) (k : Kept t u) : Kept s u :=
  ⟨k.now.trans h.now, k.cfg.trans h.cfg, k.inputs.trans h.inputs, k.quals.trans h.quals, k.store.trans h.store,
    k.pins.trans h.pins, k.startup.trans h.startup, k.reply.trans h.reply⟩

theorem Samples.kept (h : Samples s t) : Kept s t := by
  obtain ⟨b, rfl | rfl⟩ := h
  · exact ⟨rfl, rfl, rfl, rfl, rfl, rfl, rfl, rfl⟩
  · exact ⟨rfl, rfl, rfl, rfl, rfl, rfl, rfl, rfl⟩

theorem takeMode_cases (m : Monitor) (b : Board) (now interval : Nat) : takeMode m b now interval = m
    ∨ (m.mode = .continuous ∧ takeMode m b now interval = startSleep now interval)
    ∨ (m.mode = .sleep ∧ takeMode m b now interval = startContinuous m now) := by
  unfold takeMode
  split
  · rename_i hm; exact .inr (.inr ⟨hm, rfl⟩)
  · rename_i hm; exact .inr (.inl ⟨hm, rfl⟩)
  · exact .inl rfl
  · exact .inl rfl

/-- A change of mode at the end of a sample's event (R91, R92). -/
theorem Samples.monitor (h : Samples s t) : t.monitor = s.monitor
    ∨ (s.monitor.mode = .continuous ∧ t.monitor = startSleep s.now s.cfg.settings.sleepInterval)
    ∨ (s.monitor.mode = .sleep ∧ t.monitor = startContinuous s.monitor s.now) := by
  obtain ⟨b, rfl | rfl⟩ := h
  · exact .inl rfl
  · exact takeMode_cases s.monitor _ s.now s.cfg.settings.sleepInterval

/-- A set of monitors that changes of mode do not leave holds through a pass. -/
theorem pass_monitor (P : Monitor → Prop)
    (sleeps : ∀ x, P x → x.mode = .continuous → P (startSleep s.now s.cfg.settings.sleepInterval))
    (wakes : ∀ x, P x → x.mode = .sleep → P (startContinuous x s.now)) (hs : P s.monitor) (m : RoundMode)
    (readings : Readings) : Kept s (s.pass m readings) ∧ P (s.pass m readings).monitor := by
  have turn {t u : State} (h : Samples t u) (ht : Kept s t ∧ P t.monitor) : Kept s u ∧ P u.monitor := by
    obtain ⟨kept, held⟩ := ht
    refine ⟨kept.trans h.kept, ?_⟩
    rcases h.monitor with same | ⟨hm, hu⟩ | ⟨hm, hu⟩
    · rwa [same]
    · rw [hu, kept.now, kept.cfg]; exact sleeps _ held hm
    · rw [hu, kept.now]; exact wakes _ held hm
  exact pass_induct (fun t => Kept s t ∧ P t.monitor) m readings (fun t c => turn (samples_readChannel t m readings c))
    (fun t c => turn (samples_readInput t m readings c)) s ⟨Kept.refl s, hs⟩

theorem twelve_eq : twelve = List.finRange 12 := by decide

/-! ### The binding a turn reads by -/

theorem boundTo_none {cfg : WorkingConfig} {p : NodeRecord → Bool}
    (h : ∀ i r, cfg.node i = some r → p r = false) : boundTo cfg p = none := by
  unfold boundTo
  refine List.findSome?_eq_none_iff.mpr fun i _ => ?_
  cases hr : cfg.node i with
  | none => rfl
  | some r => simp [h i r hr]

theorem boundTo_some {cfg : WorkingConfig} {p : NodeRecord → Bool} (hr : cfg.node i = some r) (hp : p r = true)
    (unique : ∀ j q, cfg.node j = some q → p q = true → j = i) : boundTo cfg p = some (i, r) := by
  cases hb : boundTo cfg p with
  | none =>
    have := List.findSome?_eq_none_iff.mp hb i (mem_slots i)
    simp [hr, hp] at this
  | some x =>
    obtain ⟨j, _, hj⟩ := List.exists_of_findSome?_eq_some hb
    cases hq : cfg.node j with
    | none => simp [hq] at hj
    | some q =>
      simp only [hq] at hj
      split at hj
      · rename_i hpq
        obtain rfl := unique j q hq hpq
        rw [← Option.some.inj hj, Option.some.inj (hq.symm.trans hr)]
      · cases hj

theorem readIn_sleep_iff (n : Node) (r : NodeRecord) : readIn .sleep n r = true ↔ n.state = .good ∧ r.body.isRail = true := by
  simp [readIn]

/-- Nobody is read for a line bound to no node. -/
theorem readChannel_unbound (h : ∀ i r, s.cfg.node i = some r → r.body.channel ≠ some c) :
    s.readChannel m readings c = s := by
  unfold State.readChannel
  rw [boundTo_none fun i r hr => beq_false_of_ne (h i r hr)]

theorem readInput_unbound (h : ∀ i r, s.cfg.node i = some r → r.body.input ≠ some c) :
    s.readInput m readings c = s := by
  unfold State.readInput
  rw [boundTo_none fun i r hr => beq_false_of_ne (h i r hr)]

/-- A channel bound to one node is read for it. -/
theorem readChannel_bound (hr : s.cfg.node i = some r) (hc : r.body.channel = some c)
    (unique : ∀ j q, s.cfg.node j = some q → q.body.channel = some c → j = i) : s.readChannel m readings c =
      if readIn m (s.board.node i) r then
        match r.body with
        | .rail (.analog _ w _ _) _ _ _ => s.sampleAnalog i r w (readings.ain.get c).toNat
        | .rail (.digital ..) _ _ _ | .rail .timed _ _ _ | .signal | .handshake .. => s
      else s := by
  unfold State.readChannel
  rw [boundTo_some (p := fun r => r.body.channel == some c) hr (beq_iff_eq.mpr hc) fun j q hq hp =>
    unique j q hq (beq_iff_eq.mp hp)] <;> rfl

theorem readInput_bound (hr : s.cfg.node i = some r) (hc : r.body.input = some c)
    (unique : ∀ j q, s.cfg.node j = some q → q.body.input = some c → j = i) : s.readInput m readings c =
      if readIn m (s.board.node i) r then s.sampleDigital i r (readings.inputs.get c) else s := by
  unfold State.readInput
  rw [boundTo_some (p := fun r => r.body.input == some c) hr (beq_iff_eq.mpr hc) fun j q hq hp =>
    unique j q hq (beq_iff_eq.mp hp)]

theorem isDue_iff (x : Monitor) (now : Nat) : x.isDue now = true ↔ ∃ t, x.nextRound = some t ∧ t ≤ now := by
  simp [Monitor.isDue, Option.any_eq_true]

theorem not_isDue {x : Monitor} {now : Nat} (h : ∀ t, x.nextRound = some t → now < t) : ¬ x.isDue now = true := by
  rw [isDue_iff]
  rintro ⟨t, ht, hle⟩
  exact absurd (h t ht) (Nat.not_lt.mpr hle)

end

end Sys2Proof.Machine
end

section
/-! SETTLEMENT. Rounds. -/

namespace Sys2Proof.Machine

/-- A running monitor, or one that has changed its mode in a pass that began so (R91, R92). -/
theorem pass_continuous {s : State} {x : Monitor} (hx : s.monitor = x) (hm : x.mode = .continuous) (m : RoundMode)
    (readings : Readings) : Kept s (s.pass m readings) ∧ ((s.pass m readings).monitor = x
      ∨ (s.pass m readings).monitor = startSleep s.now s.cfg.settings.sleepInterval
      ∨ (s.pass m readings).monitor = ⟨.continuous, .stabilizing (s.now + 2), some (s.now + 2), none⟩) := by
  refine pass_monitor (fun y => y = x ∨ y = startSleep s.now s.cfg.settings.sleepInterval
    ∨ y = ⟨.continuous, .stabilizing (s.now + 2), some (s.now + 2), none⟩) (fun y _ _ => .inr (.inl rfl))
    (fun y hy sleeps => ?_) (.inl hx) m readings
  rcases hy with rfl | rfl | rfl
  · rw [hm] at sleeps; cases sleeps
  · exact .inr (.inr rfl)
  · cases sleeps

/-- The monitor of a sleep round with its converter ready, or what a change of mode makes of it (R91, R92, R95). -/
theorem pass_ready {s u : State} {m : RoundMode} {readings : Readings} {now : Nat} (hm : s.monitor.mode = .sleep)
    (hc : s.monitor.converter = .ready) (hu : s.pass m readings = u) (hnow : s.now = now) :
    Kept s u ∧ (u.monitor.mode = .sleep ∨ u.monitor = ⟨.continuous, .ready, some (now + 1), none⟩
      ∨ u.monitor = ⟨.continuous, .stabilizing (now + 2), some (now + 2), none⟩) := by
  subst hu hnow
  have settled := pass_monitor (s := s) (fun y => (y.mode = .sleep ∧ y.converter = .ready)
    ∨ y = startSleep s.now s.cfg.settings.sleepInterval ∨ y = ⟨.continuous, .ready, some (s.now + 1), none⟩
    ∨ y = ⟨.continuous, .stabilizing (s.now + 2), some (s.now + 2), none⟩) (fun y _ _ => .inr (.inl rfl))
    (fun y hy sleeps => ?_) (.inl ⟨hm, hc⟩) m readings
  · refine ⟨settled.1, ?_⟩
    rcases settled.2 with ⟨h, _⟩ | h | h | h
    · exact .inl h
    · exact .inl (by rw [h]; rfl)
    · exact .inr (.inl h)
    · exact .inr (.inr h)
  · rcases hy with ⟨_, ready⟩ | rfl | rfl | rfl
    · refine .inr (.inr (.inl ?_))
      unfold startContinuous
      rw [ready]
    · exact .inr (.inr (.inr rfl))
    · cases sleeps
    · cases sleeps

/-- The monitor after a sleep round, its pass having left the mode or not. -/
theorem ended_or_awake {x y : Monitor} (m ended : Monitor) (h : m.mode = .sleep ∨ m = x ∨ m = y) (hx : x.mode ≠ .sleep)
    (hy : y.mode ≠ .sleep) : (if m.mode = .sleep then ended else m) = ended
      ∨ (if m.mode = .sleep then ended else m) = x ∨ (if m.mode = .sleep then ended else m) = y := by
  rcases h with h | rfl | rfl
  · exact .inl (if_pos h)
  · exact .inr (.inl (if_neg hx))
  · exact .inr (.inr (if_neg hy))

/-- Settles O41: the three commands, the order of a pass, the turn of a line. -/
theorem roundsRunAndAreSet : Obligations.RoundsRunAndAreSet := by
  unfold Obligations.RoundsRunAndAreSet
  refine ⟨fun s readings => ?_, fun s m readings => by rw [← twelve_eq]; rfl, fun s m readings c =>
    ⟨readChannel_unbound, readInput_unbound, fun i r hr => ⟨fun unique hc => ⟨fun sleeps bad => ?_,
      fun w g b p wt n hb reads => ?_⟩, fun unique hc => ⟨fun sleeps bad => ?_, fun reads => ?_⟩⟩⟩⟩
  · intro asleep stabilizing kept
    have keep (x y : Monitor) (t : State) (h : Kept { s with monitor := x } t) : kept t ∧ kept { t with monitor := y } :=
      ⟨⟨h.cfg, h.inputs, h.quals, h.store, h.pins, h.startup, h.reply⟩,
        ⟨h.cfg, h.inputs, h.quals, h.store, h.pins, h.startup, h.reply⟩⟩
    refine ⟨fun hm due => ?_, fun hm hc due => ?_, fun ready hm hc due => ?_, fun h => ?_, fun h => ?_, fun h => ?_⟩
    · intro m t
      obtain ⟨same, monitor⟩ := pass_continuous (s := { s with monitor := m }) rfl hm .continuous readings
      refine ⟨congrArg Host.Outcome.next (if_pos ⟨hm, (isDue_iff _ _).mpr due⟩),
        (keep m m t same).1, monitor⟩
    · exact congrArg Host.Outcome.next (if_pos ⟨hm, hc, (isDue_iff _ _).mpr due⟩)
    · intro u ended t
      obtain ⟨same, monitor⟩ := pass_ready (s := { s with monitor := { s.monitor with converter := .ready } }) hm rfl
        (u := u) rfl (now := s.now) rfl
      have after : u.monitor.afterPass s.now ready s.cfg.settings.sleepInterval
          = if u.monitor.mode = .sleep then ended else u.monitor := by
        unfold Monitor.afterPass
        cases u.monitor.mode <;> rfl
      refine ⟨?_, (keep _ _ u same).2, ?_⟩
      · refine congrArg Host.Outcome.next ?_
        unfold afterSleepRoundPass
        rw [hm, hc]
        refine (if_pos due).trans ?_
        exact congrArg (fun x => { u with monitor := x }) after
      · have final := ended_or_awake u.monitor ended monitor nofun nofun
        clear_value u
        exact final
    · refine congrArg Host.Outcome.next (if_neg ?_)
      rintro ⟨hm, due⟩
      rcases h with h | h
      · rw [hm] at h; cases h
      · exact not_isDue h due
    · refine congrArg Host.Outcome.next (if_neg ?_)
      rintro ⟨hm, hc, due⟩
      rcases h with h | h | h
      · rw [hm] at h; cases h
      · exact h hc
      · exact not_isDue h due
    · refine congrArg Host.Outcome.next ?_
      unfold afterSleepRoundPass
      split
      · rename_i t hm hc
        refine if_neg fun due => ?_
        rcases h with h | h
        · rw [hm] at h; cases h
        · exact absurd (h t hc) (Nat.not_lt.mpr due)
      · rfl
  · rw [readChannel_bound hr hc unique, if_neg]
    rw [sleeps, readIn_sleep_iff]
    exact fun h => bad h.1
  · have read : readIn m (s.board.node i) r = true := by
      rcases reads with rfl | good
      · rfl
      · cases m with
        | continuous => rfl
        | sleep => exact (readIn_sleep_iff _ _).mpr ⟨good, by rw [hb]; rfl⟩
    rw [readChannel_bound hr hc unique, if_pos read, hb]
  · rw [readInput_bound hr hc unique, if_neg]
    rw [sleeps, readIn_sleep_iff]
    rintro ⟨good, rail⟩
    rcases bad with bad | bad
    · exact bad good
    · rw [rail] at bad; cases bad
  · have read : readIn m (s.board.node i) r = true := by
      rcases reads with rfl | good
      · rfl
      · cases m with
        | continuous => rfl
        | sleep => exact (readIn_sleep_iff _ _).mpr good
    rw [readInput_bound hr hc unique, if_pos read]

end Sys2Proof.Machine
end

section
/-! SUPPORT. Expiries of node deadlines and ramp failures. -/

namespace Sys2Proof.Machine

section
variable {e : Env} {b : Board} {i : Slot} {r : NodeRecord}

theorem deadlineDue_iff (now : Nat) (b : Board) (i : Slot) (k : DeadlineKind) : deadlineDue now b i k = true ↔
    ∃ d, (b.node i).deadline = some d ∧ d.kind = k ∧ d.expiry ≤ now := by
  unfold deadlineDue
  cases (b.node i).deadline <;> simp

theorem rampExpires_eq (hr : e.cfg.node i = some r) : rampExpires e b i = match r.body with
    | .rail .timed _ _ _ => toSettling e b i
    | .rail _ _ _ _ => rampFailure e b i
    | .handshake .. => takeFault e b i .handshake false
    | .signal => b := by
  unfold rampExpires
  rw [hr]
  dsimp only
  rcases r.body with ⟨_ | _ | _, _, _, _⟩ | _ | _ <;> rfl

theorem dischargeExpires_eq (hr : e.cfg.node i = some r) : dischargeExpires e b i = match r.body with
    | .rail (.analog ..) _ _ _ => if (b.node i).unobserved then takeEnding e b i else takeFault e b i .discharge false
    | .handshake .. => if (b.node i).forced then takeEnding e b i else takeFault e b i .handshake false
    | _ => takeEnding e b i := by
  unfold dischargeExpires
  rw [hr]
  dsimp only
  rcases r.body with ⟨_ | _ | _, _, _, _⟩ | _ | _ <;> rfl

/-- A rail that fails its ramp (R66). -/
theorem rampFailure_rail (hr : e.cfg.node i = some r) (rail : r.body.isRail = true) :
    let f := rampFailure e b i
    f.stateOf i = .discharging ∧ (f.node i).deadline = some ⟨.discharge, e.now + r.discharge⟩
    ∧ (f.node i).retriesLeft = (b.node i).retriesLeft ∧ f.outs.get r.output = .driven (flipLevel r.polarity)
    ∧ f.stack = b.stack ∧ f.issue = b.issue ∧ f.notices = b.notices ∧ (∀ j, j ≠ i → f.node j = b.node j)
    ∧ (f.node i).failure = (b.phase != .reversing || b.stack.contains ⟨i, .undoOn⟩) := by
  intro f
  have falls : fallState r = .discharging := if_pos rail
  have node : f.node i = { (b.node i).withState (fallState r) (some ⟨.discharge, e.now + r.discharge⟩) with
      failure := b.phase != .reversing || b.stack.contains ⟨i, .undoOn⟩ } := by
    rw [← node_fall hr]
    exact node_updNode_self ..
  have frame := onlySlots_rampFailure e b i
  refine ⟨(congrArg Node.state node).trans falls, congrArg Node.deadline node, (congrArg Node.retriesLeft node).trans rfl,
    outs_fall hr, frame.keeps Board.stack rfl, frame.keeps Board.issue rfl, frame.keeps Board.notices rfl, onlySlot_rampFailure e b i,
    congrArg Node.failure node⟩

end

end Sys2Proof.Machine
end

section
/-! SETTLEMENT. Node deadlines. -/

namespace Sys2Proof.Machine

/-- Settles O42: the three expiries where they are due, and where they are not. -/
theorem deadlinesEndTheirStates : Obligations.DeadlinesEndTheirStates := by
  unfold Obligations.DeadlinesEndTheirStates
  intro s i r hr due ends
  have runs (k : DeadlineKind) (f : Env → Board → Slot → Board) (h : due k) :
      Host.Outcome.next (s.expire i k f) = ends (f s.env s.board i) :=
    congrArg Host.Outcome.next (if_pos ((deadlineDue_iff ..).mpr h))
  have rests (k : DeadlineKind) (f : Env → Board → Slot → Board) (h : ¬ due k) :
      (Host.Outcome.next (s.expire i k f) : Host.Outcome State Fault Refusal) = .next s :=
    congrArg Host.Outcome.next (if_neg fun k => h ((deadlineDue_iff ..).mp k))
  refine ⟨fun h => (runs .ramp rampExpires h).trans ?_, runs .settle settleExpires,
    fun h => (runs .discharge dischargeExpires h).trans ?_, rests .ramp rampExpires, rests .settle settleExpires,
    rests .discharge dischargeExpires⟩
  · rw [rampExpires_eq (e := s.env) hr]
    rcases r.body with ⟨_ | _ | _, _, _, _⟩ | _ | _ <;> rfl
  · rw [dischargeExpires_eq (e := s.env) hr]
    rcases r.body with ⟨_ | _ | _, _, _, _⟩ | _ | _
    · exact apply_ite ends _ _ _
    · rfl
    · rfl
    · rfl
    · exact apply_ite ends _ _ _

/-- Settles O43: the failure, the retry it leads to, the ending. -/
theorem rampFailuresAreRetried : Obligations.RampFailuresAreRetried := by
  unfold Obligations.RampFailuresAreRetried
  intro e b i r hr n f spent
  refine ⟨rampFailure_rail hr, ?_⟩
  unfold takeEnding endFailureDischarge
  rfl

end Sys2Proof.Machine
end

section
/-! SUPPORT. The order of the arbiter queue, and what a grant does. -/

namespace Sys2Proof.Machine

section
variable {cfg : WorkingConfig} {e : Env} {b : Board} {i : Slot} {r : NodeRecord}

theorem slots_ascending : slots.Pairwise (· < ·) := by decide

theorem insertByKey_perm (key : Slot → Nat) (i : Slot) (l : List Slot) : (insertByKey key i l).Perm (i :: l) := by
  induction l with
  | nil => exact .refl _
  | cons j l ih =>
    unfold insertByKey
    split
    · exact .refl _
    · exact (ih.cons j).trans (.swap i j l)

theorem arbiterOrder_perm (cfg : WorkingConfig) (b : Board) (l : List Slot) : (arbiterOrder cfg b l).Perm l := by
  unfold arbiterOrder
  split
  · induction l with
    | nil => exact .refl _
    | cons i l ih => exact (insertByKey_perm ..).trans (ih.cons i)
  · have rest : l.filter (fun i => i ≤ b.pointer) = l.filter (fun i => !decide (b.pointer < i)) :=
      congrArg l.filter (funext fun i => by rw [← decide_not]; exact decide_eq_decide.mpr not_lt.symm)
    rw [rest]
    exact List.filter_append_perm ..

theorem mem_queue_iff : i ∈ b.queue cfg ↔ b.stateOf i = .queued :=
  (arbiterOrder_perm ..).mem_iff.trans <| List.mem_filter.trans <| (and_iff_right (mem_slots i)).trans beq_iff_eq

theorem nodup_queue (b : Board) (cfg : WorkingConfig) : (b.queue cfg).Nodup :=
  (arbiterOrder_perm ..).nodup_iff.mpr ((slots_ascending.imp ne_of_lt).filter _)

/-- The order of the FIXED mode: by key, equal keys by slot (R81). -/
def Ahead (key : Slot → Nat) (i j : Slot) : Prop := key i < key j ∨ (key i = key j ∧ i < j)

/-- A slot below all the entries goes to its place among them. -/
theorem pairwise_insertByKey {key : Slot → Nat} {l : List Slot} (sorted : l.Pairwise (Ahead key))
    (below : ∀ j ∈ l, i < j) : (insertByKey key i l).Pairwise (Ahead key) := by
  induction l with
  | nil => exact List.pairwise_singleton ..
  | cons j l ih =>
    obtain ⟨first, rest⟩ := List.pairwise_cons.mp sorted
    unfold insertByKey
    split
    · next le =>
      refine List.pairwise_cons.mpr ⟨fun k hk => ?_, sorted⟩
      have keyLe : key i ≤ key k := by
        rcases List.mem_cons.mp hk with rfl | hk
        · exact le
        · exact le.trans ((first k hk).elim le_of_lt fun same => same.1.le)
      exact keyLe.lt_or_eq.imp_right fun same => ⟨same, below k hk⟩
    · next gt =>
      refine List.pairwise_cons.mpr ⟨fun k hk => ?_, ih rest fun k hk => below k (List.mem_cons_of_mem _ hk)⟩
      rcases (mem_insertByKey ..).mp hk with rfl | hk
      · exact .inl (not_le.mp gt)
      · exact first k hk

theorem pairwise_foldr_insertByKey {key : Slot → Nat} {l : List Slot} (ascending : l.Pairwise (· < ·)) :
    (l.foldr (insertByKey key) []).Pairwise (Ahead key) := by
  induction ascending with
  | nil => exact .nil
  | @cons i l below ascending ih =>
    refine pairwise_insertByKey ih fun j hj => below j ?_
    have perm : (l.foldr (insertByKey key) []).Perm l := by
      clear below ascending ih hj
      induction l with
      | nil => exact .refl _
      | cons i l ih => exact (insertByKey_perm ..).trans (ih.cons i)
    exact perm.mem_iff.mp hj

theorem queue_fixed (fixed : cfg.settings.mode = .fixed) : (b.queue cfg).Pairwise (Ahead cfg.priority) := by
  unfold Board.queue arbiterOrder
  rw [fixed]
  exact pairwise_foldr_insertByKey (slots_ascending.filter _)

/-- How far a slot stands behind the slot after the pointer (R82). -/
def behind (pointer i : Slot) : Nat := (i.val + 19 - pointer.val) % 20

theorem behind_of_lt {p : Slot} (h : p < i) : behind p i = i.val - p.val - 1 := by
  have lt := Fin.lt_def.mp h
  unfold behind
  omega

theorem behind_of_le {p : Slot} (h : i ≤ p) : behind p i = i.val + 19 - p.val := by
  have le := Fin.le_def.mp h
  unfold behind
  omega

theorem queue_rotating (rotating : cfg.settings.mode = .rotating) :
    (b.queue cfg).Pairwise (fun i j => behind b.pointer i < behind b.pointer j) := by
  unfold Board.queue arbiterOrder
  rw [rotating]
  have sorted := slots_ascending.filter (fun i => b.stateOf i == .queued)
  refine List.pairwise_append.mpr ⟨?_, ?_, fun i hi j hj => ?_⟩
  · refine List.Pairwise.imp_of_mem (fun {i j} hi hj (lt : i < j) => ?_) (sorted.filter _)
    have hi : b.pointer < i := of_decide_eq_true (List.mem_filter.mp hi).2
    rw [behind_of_lt hi, behind_of_lt (hi.trans lt)]
    have := Fin.lt_def.mp hi
    have := Fin.lt_def.mp lt
    omega
  · refine List.Pairwise.imp_of_mem (fun {i j} hi hj (lt : i < j) => ?_) (sorted.filter _)
    have hj : j ≤ b.pointer := of_decide_eq_true (List.mem_filter.mp hj).2
    rw [behind_of_le hj, behind_of_le (lt.le.trans hj)]
    have := Fin.le_def.mp hj
    have := Fin.lt_def.mp lt
    omega
  · have hi : b.pointer < i := of_decide_eq_true (List.mem_filter.mp hi).2
    have hj : j ≤ b.pointer := of_decide_eq_true (List.mem_filter.mp hj).2
    rw [behind_of_lt hi, behind_of_le hj]
    have := Fin.lt_def.mp hi
    omega

/-- What the head of the queue must fit (R84, R85). -/
def Fits (e : Env) (b : Board) (w : Nat) : Prop :=
  if w ≤ e.cfg.settings.budget
  then b.inUse + w ≤ e.cfg.settings.budget ∧ ∀ j ∈ b.rampingRails e.cfg, e.cfg.weight j ≤ e.cfg.settings.budget
  else b.rampingRails e.cfg = []

theorem mayGrant_iff : mayGrant e b i = true ↔ Fits e b (e.cfg.weight i) := by
  unfold mayGrant Fits
  extract_lets budget rails
  split
  · rw [Bool.and_eq_true, decide_eq_true_eq, List.all_eq_true]
    exact and_congr_right' (forall₂_congr fun _ _ => decide_eq_true_iff)
  · exact List.isEmpty_iff

theorem weight_of_node (hr : cfg.node i = some r) : cfg.weight i = r.body.weight := by
  unfold WorkingConfig.weight
  rw [hr]

theorem grantStep_of_cons {rest : List Slot} (queue : b.queue e.cfg = i :: rest) :
    grantStep e b = if mayGrant e b i then some (grant e b i) else none := by
  unfold grantStep
  rw [queue]

theorem grantEntry_cases (b : Board) (i : Slot) : grantEntry b i = b ∨ ∃ act, grantEntry b i = pushEntry b i act := by
  unfold grantEntry
  cases b.phase with
  | reversing => exact (ite_eq_or_eq ..).symm.imp_right fun h => ⟨.undoOn, h⟩
  | _ => exact (ite_eq_or_eq ..).imp_right fun h => ⟨.on, h⟩

/-- A stack entry touches the stack alone. -/
theorem grantEntry_eq (b : Board) (i : Slot) : grantEntry b i = { b with stack := (grantEntry b i).stack } := by
  rcases grantEntry_cases b i with h | ⟨act, h⟩
  · rw [h]
  · rw [h] <;> rfl

theorem grantEntry_stack_raising (raising : b.phase = .raising) : (grantEntry b i).stack =
    if b.stack.any (fun a => a.slot == i) then b.stack else ⟨i, .on⟩ :: b.stack := by
  unfold grantEntry
  rw [raising]
  refine (apply_ite Board.stack _ _ _).trans ?_
  by_cases stands : listed b.stack i = true
  · exact (if_pos stands).trans (if_pos stands).symm
  · refine (if_neg stands).trans (.trans ?_ (if_neg stands).symm)
    have kept : b.stack.filter (fun a => a.slot ≠ i) = b.stack :=
      List.filter_eq_self.mpr fun a ha => decide_eq_true fun same =>
        stands (List.any_eq_true.mpr ⟨a, ha, beq_iff_eq.mpr same⟩)
    exact congrArg (List.cons ⟨i, .on⟩) kept

theorem grantEntry_stack_reversing (reversing : b.phase = .reversing) : (grantEntry b i).stack =
    if b.stack.contains ⟨i, .off⟩ then ⟨i, .undoOn⟩ :: b.stack.filter (fun a => a.slot ≠ i) else b.stack := by
  unfold grantEntry
  rw [reversing]
  exact apply_ite Board.stack _ _ _

/-- What a grant does besides its stack entry (R86). -/
theorem grantCharge_eq (hr : e.cfg.node i = some r) : grantCharge e b i =
    { ((enter e.cfg b i .ramping (some ⟨.ramp, e.now + r.ramp⟩)).updNode i (Node.withCharge (e.cfg.weight i))) with
      inUse := (enter e.cfg b i .ramping (some ⟨.ramp, e.now + r.ramp⟩)).inUse + e.cfg.weight i, pointer := i } := by
  have ramped : toRamping e b i = enter e.cfg b i .ramping (some ⟨.ramp, e.now + r.ramp⟩) := by
    unfold toRamping
    rw [hr]
  unfold grantCharge
  rw [ramped] <;> rfl

/-- What a grant does, field by field (R86). -/
theorem grantCharge_fields (hr : e.cfg.node i = some r) (queued : b.stateOf i = .queued) :
    let t := grantCharge e b i
    t.inUse = b.inUse + r.body.weight ∧ t.pointer = i ∧ t.stateOf i = .ramping
    ∧ (t.node i).deadline = some ⟨.ramp, e.now + r.ramp⟩ ∧ (t.node i).charge = r.body.weight
    ∧ t.outs.get r.output = .driven r.polarity ∧ t.stack = b.stack ∧ t.issue = b.issue ∧ t.phase = b.phase
    ∧ t.notices = b.notices := by
  intro t
  have eq : t = _ := grantCharge_eq hr
  have weight := weight_of_node hr
  have node : t.node i = ((b.node i).withState .ramping (some ⟨.ramp, e.now + r.ramp⟩)).withCharge r.body.weight := by
    rw [← weight, ← node_enter_self e.cfg]
    exact (congrArg (Board.node · i) eq).trans (node_updNode_self ..)
  have outs : t.outs.get r.output = .driven (r.outLevel NodeState.ramping.level) := by
    rw [eq]
    exact outsFor_get_self hr b.outs .ramping
  refine ⟨?_, congrArg Board.pointer eq, congrArg Node.state node, congrArg Node.deadline node, congrArg Node.charge node,
    outs, ?_, ?_, ?_, ?_⟩
  · rw [← weight]
    exact inUse_grantCharge (by rw [queued]; nofun)
  all_goals rw [eq] <;> rfl

end

end Sys2Proof.Machine
end

section
/-! SETTLEMENT. The arbiter. -/

namespace Sys2Proof.Machine

/-- Settles O44: the order by what is inserted where, the grant by what it writes. -/
theorem queueOrderAndGrants : Obligations.QueueOrderAndGrants := by
  unfold Obligations.QueueOrderAndGrants
  refine ⟨fun cfg b => ⟨fun i => mem_queue_iff, nodup_queue b cfg, queue_fixed, queue_rotating⟩,
    fun e b => ⟨grantStep_of_nil, fun i rest r queue hr => ?_⟩⟩
  intro w fits
  have may : mayGrant e b i = true ↔ fits := by
    rw [mayGrant_iff, weight_of_node hr] <;> rfl
  have queued : b.stateOf i = .queued := mem_queue_iff.mp (queue ▸ List.mem_cons_self)
  obtain ⟨inUse, pointer, state, deadline, charge, outs, stack, issue, phase, notices⟩ := grantCharge_fields hr queued
  rw [grantStep_of_cons queue]
  refine ⟨fun no => if_neg fun yes => no (may.mp yes), fun yes => ⟨_, if_pos (may.mpr yes), ?_⟩⟩
  rw [grant_eq]
  have entry := grantEntry_eq (grantCharge e b i) i
  have raised := fun h => grantEntry_stack_raising (b := grantCharge e b i) (i := i) (phase.trans h)
  have reversed := fun h => grantEntry_stack_reversing (b := grantCharge e b i) (i := i) (phase.trans h)
  rw [stack] at raised reversed
  have others := onlySlot_grantCharge e b i
  generalize grantCharge e b i = c at *
  generalize (grantEntry c i).stack = stack' at *
  rw [entry]
  exact ⟨inUse, pointer, state, deadline, charge, outs, others, raised, reversed, issue, phase, notices⟩

end Sys2Proof.Machine
end

section
/-! SUPPORT. The front panel's events. -/

namespace Sys2Proof.Machine

section
variable {s : State}

/-- A pin command that names the level the pin has leaves the pin and the panel (entry 2). -/
theorem afterPwrbtnChange_same (s : State) : afterPwrbtnChange s.pins.pwrbtn s = s := by
  refine (if_pos ?_).trans rfl
  rw [beq_self_eq_true, Bool.or_true]

theorem afterPwrbtnChange_down (level : Level) (down : s.isUp = false) :
    afterPwrbtnChange level s = { s with pins := { s.pins with pwrbtn := level } } :=
  if_pos (by rw [down]; rfl)

/-- What an edge of PWRBTN_N does to the panel (R180). -/
def Panel.edge (p : Panel) (level : Level) (now : Nat) : Panel :=
  match level with
  | .low => p.falls now
  | .high => p.rises now

theorem edge_eq (p : Panel) (level : Level) (now : Nat) : p.edge level now = match p.button, level with
    | .released, .low => { p with button := .pressDebounce, debounce := some (now + 20) }
    | .releaseDebounce, .low => { p with button := .pressed, debounce := none }
    | .waitRelease, .low => { p with debounce := none }
    | .pressDebounce, .high => { p with button := .released, debounce := none }
    | .pressed, .high => { p with button := .releaseDebounce, debounce := some (now + 20) }
    | .waitRelease, .high => { p with debounce := some (now + 20) }
    | _, _ => p := by
  unfold Panel.edge Panel.falls Panel.rises
  cases level <;> cases p.button <;> rfl

theorem afterPwrbtnChange_move {level : Level} (up : s.isUp = true) (move : s.pins.pwrbtn ≠ level) :
    afterPwrbtnChange level s = { s with
      pins := { s.pins with pwrbtn := level }
      panel := s.panel.edge level s.now } := by
  refine (if_neg ?_).trans ?_
  · rw [up, beq_eq_false_iff_ne.mpr move]
    nofun
  · cases level <;> rfl

theorem afterButtonDebounceExpiry_due {t : Nat} (running : s.panel.debounce = some t) (due : t ≤ s.now) :
    afterButtonDebounceExpiry s = match s.panel.button with
      | .pressDebounce => s.pressed
      | .releaseDebounce => s.released
      | .waitRelease => { s with panel := { s.panel with button := .released, debounce := none, press := none } }
      | .released | .pressed => s :=
  if_pos (by rw [running]; exact (timerDue_some ..).mpr due)

theorem timerDue_iff (timer : Option Nat) (now : Nat) : timerDue timer now = true ↔ ∃ t, timer = some t ∧ t ≤ now := by
  cases timer with
  | none => exact iff_of_false nofun nofun
  | some t =>
    rw [timerDue_some]
    exact ⟨fun due => ⟨t, rfl, due⟩, fun ⟨_, same, due⟩ => Option.some.inj same ▸ due⟩

/-- A timer that is not yet due, or does not run, does not fire. -/
theorem not_timerDue {timer : Option Nat} {now : Nat} (h : ∀ t, timer = some t → now < t) : ¬ timerDue timer now = true :=
  fun due => have ⟨t, running, le⟩ := (timerDue_iff ..).mp due; (h t running).not_ge le

theorem transitionKind_eq_ite (b : Board) : b.transitionKind =
    if b.phase = .lowering ∨ b.phase = .raising ∨ b.phase = .reversing then b.record.map Record.kind else none := by
  unfold Board.transitionKind
  cases b.phase <;> rfl

/-- ATTN_N goes low where a notice waits (R196). -/
theorem attn_of_notices (waits : s.board.notices ≠ []) : s.attn = { s with link := { s.link with attnLow := true } } := by
  unfold State.attn
  rw [List.isEmpty_eq_false_iff.mpr waits, Bool.not_false, Bool.or_true]

end

end Sys2Proof.Machine
end

section
/-! SETTLEMENT. The front panel's button. -/

namespace Sys2Proof.Machine

/-- Settles O45: the edges of the pin, and the debounce of a button held through part reset. -/
theorem buttonQualifierTable : Obligations.ButtonQualifierTable := by
  unfold Obligations.ButtonQualifierTable
  refine ⟨fun s level down => congrArg Host.Outcome.next (afterPwrbtnChange_down level down),
    fun s up => ⟨congrArg Host.Outcome.next (afterPwrbtnChange_same s), fun level move => ?_, ?_,
      fun early => congrArg Host.Outcome.next (if_neg (not_timerDue early))⟩⟩
  · refine congrArg Host.Outcome.next ((afterPwrbtnChange_move up move).trans ?_)
    rw [edge_eq] <;> rfl
  · intro waits ⟨t, running, due⟩
    refine congrArg Host.Outcome.next ((afterButtonDebounceExpiry_due running due).trans ?_)
    rw [waits]

/-- Settles O46: the press, the release, and the press held for its hold time. -/
theorem pressesAreTaken : Obligations.PressesAreTaken := by
  unfold Obligations.PressesAreTaken
  refine ⟨fun s t running due => ⟨fun pressed => ?_, fun p released press => ?_⟩,
    fun s => ⟨fun t running due => ?_, fun early => ?_⟩⟩
  · refine congrArg Host.Outcome.next ((afterButtonDebounceExpiry_due running due).trans ?_)
    rw [pressed]
    show s.pressed = _
    unfold State.pressed openPress
    rw [transitionKind_eq_ite, Nat.mul_comm] <;> rfl
  · intro panel
    have taken : exec .buttonDebounceExpiry s = .next s.released := by
      refine congrArg Host.Outcome.next ((afterButtonDebounceExpiry_due running due).trans ?_)
      rw [released]
    rw [taken]
    unfold State.released
    rw [press]
    refine (apply_ite Host.Outcome.next _ _ _).trans (if_congr ?_ ?_ rfl)
    · rw [Bool.and_eq_true, Bool.not_eq_true']
    · exact congrArg Host.Outcome.next (attn_of_notices (postInto_ne_nil _ _))
  · refine congrArg Host.Outcome.next ((if_pos ?_).trans rfl)
    rw [running]
    exact (timerDue_some ..).mpr due
  · exact congrArg Host.Outcome.next (if_neg (not_timerDue early))

end Sys2Proof.Machine
end

section
/-! SUPPORT. The indicator's patterns, and the filters of ACOK and HOTSHUT_N. -/

namespace Sys2Proof.Machine

section
variable {s : State} {p : Panel}

/-- The first segment of a pattern that starts (R185). -/
theorem segmentAt_zero (pattern : Pattern) (now : Nat) : segmentAt pattern 0 now = match pattern.segments with
    | [] => none
    | first :: _ => some ⟨0, now + first.2⟩ := by
  cases pattern <;> rfl

theorem segments_isEmpty_iff (pattern : Pattern) :
    pattern.segments.isEmpty = true ↔ pattern = .steadyOn ∨ pattern = .steadyOff := by
  cases pattern <;> decide

/-- Every pattern but the dark one starts lit (R185). -/
theorem lit_startPattern (p : Panel) (pattern : Pattern) (now : Nat) :
    (p.startPattern pattern now).lit = (pattern != .steadyOff) := by
  cases pattern <;> rfl

theorem lit_of_segment {g : Segment} {lit : Bool} {time : Nat} (running : p.segment = some g)
    (segment : p.pattern.segments[g.index]? = some (lit, time)) : p.lit = lit := by
  have shown : ((p.pattern.segments[g.index]?).map Prod.fst).getD false = lit := by rw [segment]; rfl
  unfold Panel.lit
  rw [running]
  cases pattern : p.pattern with
  | steadyOn | steadyOff =>
    rw [pattern] at segment
    exact absurd segment (by nofun)
  | slow | fast | code2 | code3 | code4 =>
    rw [pattern] at shown
    exact shown

theorem segmentAt_of_get {pattern : Pattern} {index : Nat} {lit : Bool} {time : Nat}
    (segment : pattern.segments[index]? = some (lit, time)) (now : Nat) :
    segmentAt pattern index now = some ⟨index, now + time⟩ := by
  unfold segmentAt
  rw [segment]

theorem afterSegmentExpiry_due {g : Segment} (running : s.panel.segment = some g) (due : g.expiry ≤ s.now) :
    afterSegmentExpiry s =
      { s with panel := s.panel.segmentEnds s.now, ledOn := (s.panel.segmentEnds s.now).lit } :=
  if_pos (by rw [running]; exact decide_eq_true due)

theorem segmentEnds_of_next {pattern : Pattern} (waits : p.next = some pattern) (now : Nat) :
    p.segmentEnds now = p.startPattern pattern now := by
  unfold Panel.segmentEnds
  rw [waits]

theorem segmentEnds_of_segment {g : Segment} (free : p.next = none) (running : p.segment = some g) (now : Nat) :
    p.segmentEnds now = { p with segment := segmentAt p.pattern ((g.index + 1) % p.pattern.segments.length) now } := by
  unfold Panel.segmentEnds
  rw [free, running]

theorem afterInputPinChange_down (i : SupplyInput) (level : Level) (down : s.isUp = false) :
    afterInputPinChange i level s = { s with pins := setSupplyPin s.pins i level } :=
  if_pos (by rw [down]; rfl)

/-- A pin command that names the level the pin has changes nothing (entry 2). -/
theorem afterInputPinChange_same (i : SupplyInput) (s : State) : afterInputPinChange i (supplyPin s.pins i) s = s := by
  refine (if_pos ?_).trans ?_
  · rw [beq_self_eq_true, Bool.or_true]
  · cases i <;> rfl

theorem afterInputPinChange_move {i : SupplyInput} {level : Level} (up : s.isUp = true) (move : supplyPin s.pins i ≠ level) :
    afterInputPinChange i level s = { s with
      pins := setSupplyPin s.pins i level
      inputs := s.inputs.setFilter i (filterAfter (s.inputs.held i) level s.now) } :=
  if_neg (by rw [up, beq_eq_false_iff_ne.mpr move]; nofun)

theorem eq_held_acok_iff (x : Inputs) (level : Level) : level = x.held .acok ↔ (level = .high ↔ x.acokHigh = true) := by
  show level = (if x.acokHigh then .high else .low) ↔ _
  cases level <;> cases x.acokHigh <;> decide

theorem eq_held_hotshut_iff (x : Inputs) (level : Level) :
    level = x.held .hotshut ↔ (level = .low ↔ x.hotshutActive = true) := by
  show level = (if x.hotshutActive then .low else .high) ↔ _
  cases level <;> cases x.hotshutActive <;> decide

/-- A filter that is due: the change to the pin's level is taken (R160). -/
theorem afterInputFilterExpiry_due {i : SupplyInput} {t : Nat} (running : s.inputs.filter i = some t) (due : t ≤ s.now) :
    afterInputFilterExpiry i s =
      let s1 := { s with inputs := s.inputs.take i (supplyPin s.pins i) }
      match supplyChange s1.env s.board i (supplyPin s.pins i) with
      | none => s1
      | some b => finish s { s1 with board := b } :=
  if_pos (by rw [running]; exact (timerDue_some ..).mpr due)

theorem inTransition_eq (phase : Phase) :
    phase.inTransition = decide (phase = .lowering ∨ phase = .raising ∨ phase = .reversing) := by
  cases phase <;> rfl

theorem acfailStarts_eq (b : Board) : acfailStarts b =
    (decide (b.phase = .lowering ∨ b.phase = .raising ∨ b.phase = .reversing)
      || decide (b.phase = .idle ∧ b.platform = .working)) := by
  unfold acfailStarts
  rw [inTransition_eq, Bool.decide_and]
  cases b.phase <;> cases b.platform <;> rfl

/-- A falling ACOK (R161). -/
theorem supplyChange_acok_low (e : Env) (b : Board) : supplyChange e b .acok .low = some (
    let begins := decide (b.phase = .lowering ∨ b.phase = .raising ∨ b.phase = .reversing)
      || decide (b.phase = .idle ∧ b.platform = .working)
    let posted := b.post (.acfail b.platform b.phase begins)
    if begins then emergencyOff e posted .acfail none else posted) := by
  unfold supplyChange acokFalls
  rw [acfailStarts_eq]

end

end Sys2Proof.Machine
end

section
/-! SETTLEMENT. The indicator and the supply inputs. -/

namespace Sys2Proof.Machine

/-- Settles O47: the tables of the patterns and of the wanted one, and the segments' ends. -/
theorem indicatorPatterns : Obligations.IndicatorPatterns := by
  unfold Obligations.IndicatorPatterns
  refine ⟨fun p => by cases p <;> rfl, fun unconfigured b => ?_, fun p wanted now => ?_,
    fun s g len running due length index free => ?_, fun s g wanted running due waits => ?_, fun s early => ?_⟩
  · unfold wantedPattern
    cases unconfigured <;> cases b.phase <;> cases b.lockout <;> cases b.platform <;> rfl
  · refine if_congr Iff.rfl rfl (if_congr (segments_isEmpty_iff _) ?_ rfl)
    unfold Panel.startPattern
    rw [segmentAt_zero] <;> rfl
  · subst length
    have inside := Nat.mod_lt (g.index + 1) (Nat.zero_lt_of_lt index)
    have segment := List.getElem?_eq_getElem inside
    refine ⟨_, _, segment, congrArg Host.Outcome.next ((afterSegmentExpiry_due running due).trans ?_)⟩
    rw [segmentEnds_of_segment free running, segmentAt_of_get segment, lit_of_segment rfl segment]
  · refine congrArg Host.Outcome.next ((afterSegmentExpiry_due running due).trans ?_)
    rw [segmentEnds_of_next waits, lit_startPattern]
    unfold Panel.startPattern
    rw [segmentAt_zero] <;> rfl
  · refine congrArg Host.Outcome.next (if_neg fun fires => ?_)
    obtain ⟨g, running, due⟩ := (Option.any_eq_true ..).mp fires
    exact (early g running).not_ge (of_decide_eq_true due)

/-- Settles O48: the pins' edges, and the four changes a filter can take. -/
theorem supplyInputsAreFilteredAndTaken : Obligations.SupplyInputsAreFilteredAndTaken := by
  unfold Obligations.SupplyInputsAreFilteredAndTaken
  refine ⟨fun s level down => ⟨?_, ?_⟩, fun s up => ⟨?_, ?_, fun level move => ?_, fun level move => ?_, fun early => ?_,
    fun early => ?_⟩, fun s t due => ?_⟩
  rotate_right
  · intro moving
    refine ⟨fun running low => ?_, fun running high => ?_, fun running low => ?_, fun running high => ?_⟩
    · refine congrArg Host.Outcome.next ((afterInputFilterExpiry_due (i := .acok) running due).trans ?_)
      rw [show supplyPin s.pins .acok = .low from low]
      dsimp only
      rw [supplyChange_acok_low] <;> rfl
    · refine congrArg Host.Outcome.next ((afterInputFilterExpiry_due (i := .acok) running due).trans ?_)
      rw [show supplyPin s.pins .acok = .high from high] <;> rfl
    · refine congrArg Host.Outcome.next ((afterInputFilterExpiry_due (i := .hotshut) running due).trans ?_)
      rw [show supplyPin s.pins .hotshut = .low from low] <;> rfl
    · refine congrArg Host.Outcome.next ((afterInputFilterExpiry_due (i := .hotshut) running due).trans ?_)
      rw [show supplyPin s.pins .hotshut = .high from high] <;> rfl
  · exact congrArg Host.Outcome.next (afterInputPinChange_down .acok level down)
  · exact congrArg Host.Outcome.next (afterInputPinChange_down .hotshut level down)
  · exact congrArg Host.Outcome.next (afterInputPinChange_same .acok s)
  · exact congrArg Host.Outcome.next (afterInputPinChange_same .hotshut s)
  · refine congrArg Host.Outcome.next ((afterInputPinChange_move (i := .acok) up move).trans ?_)
    have filter : filterAfter (s.inputs.held .acok) level s.now = _ := if_congr (eq_held_acok_iff ..) rfl rfl
    rw [filter] <;> rfl
  · refine congrArg Host.Outcome.next ((afterInputPinChange_move (i := .hotshut) up move).trans ?_)
    have filter : filterAfter (s.inputs.held .hotshut) level s.now = _ := if_congr (eq_held_hotshut_iff ..) rfl rfl
    rw [filter] <;> rfl
  · exact congrArg Host.Outcome.next (if_neg (not_timerDue early))
  · exact congrArg Host.Outcome.next (if_neg (not_timerDue early))

end Sys2Proof.Machine
end

section
/-! SUPPORT. The long timers, and the part at its load event. -/

namespace Sys2Proof.Machine

section
variable {s : State}

theorem afterDwellExpiry_running {m : Nat} {t : Nat} (running : s.board.dwell = .running m t) : afterDwellExpiry s =
    if t ≤ s.now then finish s { s with board := { s.board with dwell := .expired } } else s := by
  unfold afterDwellExpiry
  rw [running]

/-- A dwell that does not run does not expire (entry 2). -/
theorem afterDwellExpiry_idle (idle : s.board.dwell = .none ∨ s.board.dwell = .expired) : afterDwellExpiry s = s := by
  unfold afterDwellExpiry
  rcases idle with h | h <;> rw [h]

theorem afterWatchdogWarn_warned {d a : Nat} {kind : Kind} {outcome : Ended}
    (armed : s.board.watchdog = .armed d a true kind outcome) : afterWatchdogWarn s = s := by
  unfold afterWatchdogWarn
  rw [armed]

theorem afterWatchdogWarn_disarmed (disarmed : s.board.watchdog = .disarmed) : afterWatchdogWarn s = s := by
  unfold afterWatchdogWarn
  rw [disarmed]

theorem afterWatchdogWarn_armed {d a : Nat} {kind : Kind} {outcome : Ended}
    (armed : s.board.watchdog = .armed d a false kind outcome) : afterWatchdogWarn s =
      if a + d * 3 / 4 ≤ s.now then State.attn { s with
        board := { s.board with watchdog := .armed d a true kind outcome }.post
          (.warn (d - d * 3 / 4) s.board.counter kind outcome) }
      else s := by
  unfold afterWatchdogWarn
  rw [armed] <;> rfl

theorem afterWatchdogExpiry_armed {d a : Nat} {warned : Bool} {kind : Kind} {outcome : Ended}
    (armed : s.board.watchdog = .armed d a warned kind outcome) : afterWatchdogExpiry s =
      if a + d ≤ s.now then finish s { s with board := { s.board with
        watchdog := .disarmed, counter := min 3 (s.board.counter + 1), recovery := true } }
      else s := by
  unfold afterWatchdogExpiry
  rw [armed]

theorem afterWatchdogExpiry_disarmed (disarmed : s.board.watchdog = .disarmed) : afterWatchdogExpiry s = s := by
  unfold afterWatchdogExpiry
  rw [disarmed]

/-- A load event once running changes nothing (entry 8). -/
theorem afterLoadEvent_running {pins : Pins} (running : s.startup = .running) : afterLoadEvent pins s = s := by
  unfold afterLoadEvent
  rw [running]

theorem afterLoadEvent_early {pins : Pins} {t : Nat} (waits : s.startup = .awaitLoad t) (early : s.now < t) :
    afterLoadEvent pins s = s := by
  unfold afterLoadEvent
  rw [waits]
  exact if_neg early.not_ge

theorem afterLoadEvent_due {pins : Pins} {t : Nat} (waits : s.startup = .awaitLoad t) (due : t ≤ s.now) :
    afterLoadEvent pins s = finish (loadedState pins s) (startUp (loadedState pins s)) := by
  unfold afterLoadEvent
  rw [waits]
  exact if_pos due

/-- The part may start where its image was taken and HOTSHUT_N is high (R202, step 8). -/
theorem mayStart_loadedState_iff (pins : Pins) (s : State) :
    (loadedState pins s).board.mayStart (loadedState pins s).env = true
      ↔ loadResult s.store.image = .ok ∧ pins.hotshut = .high := by
  show (!(loadResult s.store.image != .ok)
    && (if pins.hotshut == .low then Lockout.thermal else .none) == .none) = true ↔ _
  rw [Bool.and_eq_true, Bool.not_eq_true', bne_eq_false_iff_eq]
  refine and_congr_right' ?_
  cases pins.hotshut <;> decide

theorem loadedConfig_eq (image : Image) : loadedConfig image = match image with
    | .bytes bytes => if loadResult (.bytes bytes) = .ok then decodeImage bytes else .default
    | .noMarker | .torn => .default := by
  cases image <;> rfl

theorem qual_loadedState (pins : Pins) (s : State) (k : WakeLine) : (loadedState pins s).qual k =
    freshQualifier ((loadedState pins s).cfg.line k) (pins.wk.get k) s.now := by
  simp [loadedState, State.qual, Vector.get_eq_getElem]

end

end Sys2Proof.Machine
end

section
/-! SETTLEMENT. The long timers, part reset and the load event. -/

namespace Sys2Proof.Machine

/-- Settles O49: each timer where it runs, by whether it is due, and where it does not. -/
theorem longTimersExpire : Obligations.LongTimersExpire := by
  unfold Obligations.LongTimersExpire
  refine fun s => ⟨fun m t running => ?_, fun idle => ?_, fun d a kind outcome armed => ?_,
    fun d a warned kind outcome armed => ⟨fun given => ?_, ?_⟩, fun disarmed => ⟨?_, ?_⟩⟩
  · exact (congrArg Host.Outcome.next (afterDwellExpiry_running running)).trans (apply_ite Host.Outcome.next _ _ _)
  · exact congrArg Host.Outcome.next (afterDwellExpiry_idle idle)
  · refine (congrArg Host.Outcome.next (afterWatchdogWarn_armed armed)).trans ?_
    refine (apply_ite Host.Outcome.next _ _ _).trans (if_congr Iff.rfl ?_ rfl)
    exact congrArg Host.Outcome.next (attn_of_notices (postInto_ne_nil _ _))
  · subst given
    exact congrArg Host.Outcome.next (afterWatchdogWarn_warned armed)
  · exact (congrArg Host.Outcome.next (afterWatchdogExpiry_armed armed)).trans (apply_ite Host.Outcome.next _ _ _)
  · exact congrArg Host.Outcome.next (afterWatchdogWarn_disarmed disarmed)
  · exact congrArg Host.Outcome.next (afterWatchdogExpiry_disarmed disarmed)

/-- Settles O50: the reset values, block by block. -/
theorem partResetLeaves : Obligations.PartResetLeaves := by
  unfold Obligations.PartResetLeaves
  intro s held
  have node (i : Slot) : (afterPartReset held s).board.node i = Node.reset := node_reset i
  have released (o : Fin 16) : (afterPartReset held s).board.outs.get o = .released := by
    simp [afterPartReset, State.reset, Board.reset, Vector.get_eq_getElem]
  have slot (i : Slot) : (afterPartReset held s).board.stateOf i = .off := congrArg Node.state (node i)
  refine ⟨afterPartReset held s, rfl, rfl, rfl, rfl, rfl, rfl, rfl, rfl, rfl, rfl, rfl, rfl, rfl, rfl, rfl, rfl,
    rfl, rfl, rfl, rfl, rfl, rfl, rfl, rfl, rfl, rfl,
    released, fun i => ⟨slot i, ?_⟩, rfl, rfl, rfl, rfl, rfl, rfl, rfl, rfl, rfl, rfl,
    rfl, rfl, rfl, rfl, rfl⟩
  rw [node i]
  exact ⟨rfl, rfl, rfl, rfl, rfl, rfl, rfl, rfl, rfl, rfl, rfl, rfl⟩

/-- Settles O51: the load event where it is not taken, and the state it loads where it is. -/
theorem loadEventStartsThePart : Obligations.LoadEventStartsThePart := by
  unfold Obligations.LoadEventStartsThePart
  refine fun s pins => ⟨fun running => congrArg Host.Outcome.next (afterLoadEvent_running running), fun t waits =>
    ⟨fun early => congrArg Host.Outcome.next (afterLoadEvent_early waits early), fun due => ⟨loadedState pins s, ?_⟩⟩⟩
  have node (i : Slot) : (loadedState pins s).board.node i = loadedNode (loadedConfig s.store.image) i :=
    node_loadedBoard ..
  refine ⟨?_, rfl, rfl, rfl, rfl, rfl, loadedConfig_eq _, rfl, rfl, rfl, rfl, ?_, rfl, rfl, rfl, rfl, rfl, rfl, rfl,
    rfl, rfl, rfl, rfl, rfl, rfl, rfl, rfl, rfl, rfl, rfl, fun i => ?_, rfl, fun unique => ?_, rfl,
    fun k => (qual_loadedState pins s k).trans (freshQualifier_eq ..),
    rfl, rfl, rfl, rfl, rfl, rfl, rfl, rfl, rfl, rfl, rfl, rfl⟩
  · refine congrArg Host.Outcome.next ((afterLoadEvent_due waits due).trans ?_)
    refine congrArg (finish (loadedState pins s)) ?_
    exact if_congr (mayStart_loadedState_iff pins s) rfl rfl
  · exact if_congr beq_iff_eq rfl rfl
  · intro n
    rw [show n = _ from node i]
    exact ⟨rfl, rfl, rfl, rfl, rfl, rfl, rfl, rfl, rfl, rfl, rfl, rfl, rfl, rfl, rfl, rfl, rfl, rfl, rfl⟩
  · exact linesAgree_loadedBoard unique ..

end Sys2Proof.Machine
end
